-- ==== Sys2Proof/Word.lean ====
section
/-! DEFINITION. The word types of the block, and the five-lane record that holds one value per channel. -/

namespace Sys2Proof

/-- A command word or a response word: every transfer is one 32-bit word (R52, R65). -/
abbrev Word := BitVec 32

/-- A byte of a platform's little-endian mapping of a word (R52). -/
abbrev Byte := BitVec 8

/-- The bit pattern of an IEEE 754 binary32 value (R13). -/
abbrev F32 := BitVec 32

/-- A DTMF symbol or tone pattern: bit k stands for channel k's tone (R15, R103). -/
abbrev Symbol := BitVec 4

/-- The source's explicit "none" symbol (R15). -/
abbrev Symbol.none : Symbol := 0#4

/-- The binary32 value +0.0, to which the taps and energies are cleared (R49, R85). -/
abbrev F32.zero : F32 := 0#32

/-- One value per channel: the five lanes of R89, channel i in field `ci`. How many of them carry a channel is NCH (R6). -/
structure Lanes (α : Type) where
  c0 : α
  c1 : α
  c2 : α
  c3 : α
  c4 : α
  deriving DecidableEq, Repr

namespace Lanes

variable {α β γ : Type}

/-- The value of channel i. -/
def get (l : Lanes α) (i : Fin 5) : α :=
  match i with
  | 0 => l.c0
  | 1 => l.c1
  | 2 => l.c2
  | 3 => l.c3
  | 4 => l.c4

/-- The lanes whose channel i holds `f i`. -/
def ofFn (f : Fin 5 → α) : Lanes α :=
  { c0 := f 0, c1 := f 1, c2 := f 2, c3 := f 3, c4 := f 4 }

/-- The same value in every channel. -/
def const (a : α) : Lanes α := ofFn fun _ => a

/-- The values in channel order. -/
def toList (l : Lanes α) : List α := [l.c0, l.c1, l.c2, l.c3, l.c4]

/-- Whether every channel's value passes a check. -/
def all (p : α → Bool) (l : Lanes α) : Bool :=
  p l.c0 && p l.c1 && p l.c2 && p l.c3 && p l.c4

end Lanes

end Sys2Proof
end

