-- ==== Sys2Proof/Config.lean ====
section
/-! DEFINITION. What an instance fixes for life (R6, R7, R20), the test configuration TC (95_test_vectors.md section 1), and
the two free values the model uses where R13's primitives are not defined. What is computed from a configuration
(SUSTAIN_BLOCKS, the coefficients, the constraints of R9) is in Machine/Params.lean. -/

namespace Sys2Proof

/-- A non-negative rational number `num / den` (the type of FS and F[i] in R7). R9 makes both parts positive. -/
structure Ratio where
  num : Nat
  den : Nat
  deriving DecidableEq, Repr

/-- A three-symbol window, oldest first: the DtmfHistory (R29) and the sequence SEQ (R7). -/
structure History where
  h0 : Symbol
  h1 : Symbol
  h2 : Symbol
  deriving DecidableEq, Repr

/-- The configuration of one block instance. The fields with a default are the parameters the source fixes (R6): each carries the
source's value as its default and can be given another (R5, 93 I21). -/
structure Config where
  /-- NCH, the number of channels: channels 0 to NCH − 1 run. -/
  nch : Nat := 5
  /-- N_BLOCK, samples per analysis block. -/
  nBlock : Nat := 800
  /-- W_HIST, smoothing weight of the old value. -/
  wHist : Nat := 11
  /-- W_NEW, smoothing weight of the new value. -/
  wNew : Nat := 5
  /-- W_SHIFT: the smoothing denominator is `2 ^ wShift`. -/
  wShift : Nat := 4
  /-- SUSTAIN_S, seconds of the sustained-1750 signal, a whole number of them (log entry 17, DESIGN CHOICE). -/
  sustainS : Nat := 5
  /-- NDTMF, the number of DTMF channels: channels 0 to NDTMF − 1 enter the tone pattern. -/
  ndtmf : Nat := 4
  /-- FS, the input sample rate in Hz. -/
  fs : Ratio
  /-- F[0], the target frequency of channel 0 in Hz. -/
  f0 : Ratio
  /-- F[1]. -/
  f1 : Ratio
  /-- F[2]. -/
  f2 : Ratio
  /-- F[3]. -/
  f3 : Ratio
  /-- F[4], the 1750 Hz channel's frequency. -/
  f4 : Ratio := { num := 1750, den := 1 }
  /-- COEFF[i] where the configuration gives it; `none` where it is derived from F[i] and FS (R82). -/
  coeffGiven : Lanes (Option F32)
  /-- NORM_SCALE, full scale of a normalised strength. -/
  normScale : Nat
  /-- THRESH_DTMF, DTMF tone threshold on a smoothed strength. -/
  threshDtmf : Int
  /-- THRESH_1750, 1750 Hz threshold on a smoothed strength. -/
  thresh1750 : Int
  /-- N1750, depth of the 1750 Hz up/down counter. -/
  n1750 : Nat
  /-- ROW_MASK, which of channels 0..3 are row tones. -/
  rowMask : BitVec 4
  /-- VALID, the valid tone patterns; only membership matters. -/
  validCodes : List Symbol
  /-- LABEL, the digit or letter of each valid code; no rule reads it (R15). -/
  label : List (Symbol × Char)
  /-- NONE_TIMEOUT, analyses without a valid pattern before NONE becomes a candidate. -/
  noneTimeout : Nat
  /-- DEBOUNCE, minimum analyses between two history pushes. -/
  debounce : Nat
  /-- SEQ, the fixed 3-symbol sequence. -/
  seq : History
  /-- GTD_BASE, the base address of a platform's byte mapping, where there is one; outside the block (R55, 93 I12). -/
  gtdBase : Option Nat := none
  deriving DecidableEq, Repr

/-- F[0..4], the target frequencies. -/
def Config.f (c : Config) : Lanes Ratio := { c0 := c.f0, c1 := c.f1, c2 := c.f2, c3 := c.f3, c4 := c.f4 }

/-- The test configuration TC of 95_test_vectors.md section 1 (D30), with its coefficients given as the words of its table. -/
def Config.tc : Config where
  fs := { num := 7000, den := 1 }
  f0 := { num := 7000, den := 12 }
  f1 := { num := 700, den := 1 }
  f2 := { num := 7000, den := 6 }
  f3 := { num := 1400, den := 1 }
  coeffGiven := { c0 := some 0x3FDDB3D7#32, c1 := some 0x3FCF1BBD#32, c2 := some 0x3F800000#32,
                  c3 := some 0x3F1E377A#32, c4 := some 0x00000000#32 }
  normScale := 100
  threshDtmf := 30
  thresh1750 := 50
  n1750 := 3
  rowMask := 0b0011#4
  validCodes := [0b0101#4, 0b0110#4, 0b1001#4, 0b1010#4]
  label := [(0b0101#4, '1'), (0b0110#4, '2'), (0b1001#4, '4'), (0b1010#4, '5')]
  noneTimeout := 5
  debounce := 2
  seq := { h0 := 0b0101#4, h1 := 0b1010#4, h2 := 0b1001#4 }

/-- FREE VALUE: which quiet NaN an invalid operation or a NaN operand gives; IEEE 754 leaves it open and R88 says no run
reaches it (log entry 8). -/
opaque Config.freeNaN : F32 → F32 → F32

/-- FREE VALUE: the integer `trunc_int` gives for an infinity or a NaN; R13 defines it for finite values only and R88 says
no run reaches another (log entry 9). -/
opaque Config.freeTrunc : F32 → Int

end Sys2Proof
end

