-- ==== Sys2Proof/Syntax.lean ====
section
/-! DEFINITION. The commands of the block: one constructor per row of the opcode table (R67). -/

namespace Sys2Proof

/-- A decoded command (R67, R76). ILLEGAL is no row of the table and ANALYZE has no word: neither is a constructor. -/
inductive Instr where
  /-- NOP (R68, R115). -/
  | nop
  /-- SAMPLE x, the sample as the signed integer the word's X field stands for (R69, R80). -/
  | sample (x : Int)
  /-- SETEN e, the enable level (R70, R116). -/
  | seten (e : Bool)
  /-- RDREG idx, a register index (R71, R118). -/
  | rdreg (idx : BitVec 4)
  /-- CLRST m, a clear mask (R72, R121). -/
  | clrst (m : BitVec 2)
  deriving DecidableEq, Repr

end Sys2Proof
end

