-- ==== Sys2Proof/WellFormed.lean ====
section
/-! DEFINITION. Which commands have a word: the operand ranges of R78 that the operand's type does not already state. -/

namespace Sys2Proof

/-- R69, R78: a sample is a 16-bit two's complement integer. -/
def sampleInRange (x : Int) : Bool := decide (-32768 ≤ x) && decide (x ≤ 32767)

/-- A command is well formed when its operand is one its word can carry (R78: never a silently truncated field). -/
def Instr.wf : Instr → Bool
  | .nop => true
  | .sample x => sampleInRange x
  | .seten _ => true
  | .rdreg _ => true
  | .clrst _ => true

end Sys2Proof
end

