-- ==== Sys2Proof/Decode.lean ====
section
/-! DEFINITION. The decoder of R76, total on words and on bytes and rejecting by name, and the encoder written from R67 to R72. -/

namespace Sys2Proof

/-- Why a word is ILLEGAL (R73). -/
inductive Illegal where
  /-- OP is one of 0x5 to 0xF. Raised by decode; not a stop: the step records error 1 (R123). -/
  | reservedOp (op : BitVec 4)
  /-- OP is 0x0 to 0x4 and a bit its row requires to be 0 is set. Raised by decode; not a stop: the step records error 1 (R123). -/
  | reservedBits (op : BitVec 4)
  /-- Fewer than the four bytes of a word. Raised by decodeBytes only; no step reads bytes. -/
  | shortWord
  deriving DecidableEq, Repr

/-- A row of the opcode map: a word is the row's command when `(w & mask) == pattern` (R67). -/
structure OpRow where
  mask : Word
  pattern : Word
  deriving DecidableEq, Repr

def rowNop : OpRow := { mask := 0xFFFFFFFF#32, pattern := 0x00000000#32 }
def rowSample : OpRow := { mask := 0xFFFF0000#32, pattern := 0x10000000#32 }
def rowSeten : OpRow := { mask := 0xFFFFFFFE#32, pattern := 0x20000000#32 }
def rowRdreg : OpRow := { mask := 0xFFFFFFF0#32, pattern := 0x30000000#32 }
def rowClrst : OpRow := { mask := 0xFFFFFFFC#32, pattern := 0x40000000#32 }

/-- The opcode map of R67, in its order. -/
def opRows : List OpRow := [rowNop, rowSample, rowSeten, rowRdreg, rowClrst]

/-- R67: whether a word is the command of a row. -/
def OpRow.admits (r : OpRow) (w : Word) : Bool := w &&& r.mask == r.pattern

/-- The OP field, bits [31:28] (R66). -/
def opField (w : Word) : BitVec 4 := w.extractLsb' 28 4

/-- The X field of SAMPLE, bits [15:0], sign-extended (R69, R77). -/
def sampleField (w : Word) : Int := (w.extractLsb' 0 16).toInt

/-- The E field of SETEN, bit 0 (R70). -/
def enableField (w : Word) : Bool := w.getLsbD 0

/-- The IDX field of RDREG, bits [3:0] (R71). -/
def indexField (w : Word) : BitVec 4 := w.extractLsb' 0 4

/-- The M field of CLRST, bits [1:0] (R72). -/
def clearField (w : Word) : BitVec 2 := w.extractLsb' 0 2

/-- R76: the decoder, total on all 32-bit words; an error is the word's being ILLEGAL (R73). -/
def decode (w : Word) : Except Illegal Instr :=
  if rowNop.admits w then .ok .nop
  else if rowSample.admits w then .ok (.sample (sampleField w))
  else if rowSeten.admits w then .ok (.seten (enableField w))
  else if rowRdreg.admits w then .ok (.rdreg (indexField w))
  else if rowClrst.admits w then .ok (.clrst (clearField w))
  else if 5 ≤ (opField w).toNat then .error (.reservedOp (opField w))
  else .error (.reservedBits (opField w))

/-- The four bytes of a word as a platform maps it: the byte at the lowest address is bits [7:0] (R52). -/
def wordOfBytes (b0 b1 b2 b3 : Byte) : Word := b3 ++ b2 ++ b1 ++ b0

/-- The bytes of a word, lowest address first (R52). -/
def bytesOfWord (w : Word) : List Byte :=
  [w.extractLsb' 0 8, w.extractLsb' 8 8, w.extractLsb' 16 8, w.extractLsb' 24 8]

/-- The decoder over a platform's bytes: one word is four of them, little-endian (R52, R74); the rest is returned. -/
def decodeBytes : List Byte → Except Illegal (Instr × List Byte)
  | b0 :: b1 :: b2 :: b3 :: rest =>
    match decode (wordOfBytes b0 b1 b2 b3) with
    | .ok i => .ok (i, rest)
    | .error e => .error e
  | _ => .error .shortWord

/-- The word of a command: its row's pattern with the operand in its field (R68 to R72). -/
def encode : Instr → Word
  | .nop => rowNop.pattern
  | .sample x => rowSample.pattern ||| (BitVec.ofInt 16 x).setWidth 32
  | .seten e => rowSeten.pattern ||| (BitVec.ofBool e).setWidth 32
  | .rdreg idx => rowRdreg.pattern ||| idx.setWidth 32
  | .clrst m => rowClrst.pattern ||| m.setWidth 32

/-- What the decoder reads from a table row's `nbits` bits `w`, laid out as a word's little-endian bytes. -/
def decodeTableWord (nbits w : Nat) : Option Instr :=
  match decodeBytes (bytesOfWord (BitVec.ofNat 32 (w % 2 ^ nbits))) with
  | .ok (i, []) => some i
  | _ => none

end Sys2Proof
end

