-- ==== Sys2Proof/Machine/State.lean ====
section
/-! DEFINITION. The state of the block (R21 to R34), what its interface holds beside it, why a step can stop, and reset. -/

namespace Sys2Proof.Machine

/-- One thing the host does between steps (R165). -/
inductive HostEvent where
  /-- The host presents a command word on the command port (R65). -/
  | word (w : Word)
  /-- The host resets the block; a word presented in the same step is not executed (R150, R151). -/
  | reset (lost : Option Word)
  deriving DecidableEq, Repr

/-- A host event and the choice R56 and R136 leave open: when it is due while a block waits in the handoff slot, `anFirst`
says whether the AN step goes before it. -/
structure Presented where
  event : HostEvent
  anFirst : Bool
  deriving DecidableEq, Repr

/-- Which step a state takes next (R56), or that the block is quiescent with nothing presented (R163). -/
inductive Turn where
  | quiescent
  | analyze
  | command (w : Word)
  | reset
  deriving DecidableEq, Repr

/-- The state of the block: the elements of R21 to R34 under their own names (`match` is `seqMatch`), and after them what
the interface holds: the configuration, the response port, the responses delivered, and what the host will present. -/
structure State where
  /-- R21: the detector's enable. -/
  en : Bool
  /-- R22: the newest recursion output of each channel. -/
  s1 : Lanes F32
  /-- R22: the recursion output before it. -/
  s2 : Lanes F32
  /-- R23: samples accepted since the last block boundary. -/
  cnt : Nat
  /-- R24: the handoff slot is full. -/
  hv : Bool
  /-- R24: the energies in the handoff slot. -/
  he : Lanes F32
  /-- R25: the smoothed strengths. -/
  y : Lanes Int
  /-- R26: the 1750 Hz up/down counter. -/
  c17 : Nat
  /-- R26: 1750 Hz present. -/
  det : Bool
  /-- R27: analyses of continued presence. -/
  s17 : Nat
  /-- R27: sustained 5 s. -/
  lng : Bool
  /-- R28: the symbol of the most recent analysis. -/
  sym : Symbol
  /-- R29: the DtmfHistory. -/
  h : History
  /-- R30: analyses since a valid pattern. -/
  sinceValid : Nat
  /-- R30: analyses since the last push. -/
  sincePush : Nat
  /-- R31: `match`, the sequence-matched flag. -/
  seqMatch : Bool
  /-- R32: analyses performed since reset, modulo 2^32. -/
  anacnt : BitVec 32
  /-- R33: a block was skipped. -/
  ovr : Bool
  /-- R34: an error was recorded. -/
  err : Bool
  /-- R34: the code of the most recent error. -/
  ecause : BitVec 4
  /-- R20: the configuration, which no step changes (log entry 1). -/
  cfg : Config
  /-- R14, R125: the response word of the step just taken, if it delivered one (log entry 4). -/
  rsp : Option Word
  /-- R166: the responses delivered so far, in order (log entry 4). -/
  responses : List Word
  /-- R56, R165: what the host will present, in order, with the interleaving (log entry 2). -/
  queue : List Presented
  deriving DecidableEq, Repr

/-- Why the machine can stop with a fault. Nobody raises one: no event stops the block (R132), so the type is empty. -/
inductive Fault where
  deriving DecidableEq, Repr

/-- Why a step can have no meaning. -/
inductive Refusal where
  /-- Raised by an arm of exec whose instruction has no meaning yet; safe. No arm of this model raises it. -/
  | notModelled (mnemonic : String)
  /-- Raised by step when the configuration fails R9 or has no room in the state (sizesOk): "a configuration that fails one is refused
  by the model (it has no meaning, rather than some meaning)" (R9, 93 I13); safe. -/
  | configRefused
  deriving DecidableEq, Repr

/-- The outcome of a step or of a meaning. -/
abbrev Result := Host.Outcome State Fault Refusal

/-- R49: the reset value of every state element for a configuration, with nothing presented and nothing delivered. -/
def State.resetOf (c : Config) : State where
  en := false
  s1 := Lanes.const F32.zero
  s2 := Lanes.const F32.zero
  cnt := 0
  hv := false
  he := Lanes.const F32.zero
  y := Lanes.const 0
  c17 := 0
  det := false
  s17 := 0
  lng := false
  sym := Symbol.none
  h := { h0 := Symbol.none, h1 := Symbol.none, h2 := Symbol.none }
  sinceValid := 0
  sincePush := c.debounce
  seqMatch := false
  anacnt := 0
  ovr := false
  err := false
  ecause := 0
  cfg := c
  rsp := none
  responses := []
  queue := []

/-- The state after reset (R49, R150) of an instance configured as TC; which configuration is the model's choice
(log entry 1, DESIGN CHOICE). -/
def State.reset : State := State.resetOf Config.tc

end Sys2Proof.Machine
end

