-- ==== Sys2Proof/Machine/Flags.lean ====
section
/-! DEFINITION. The status flags as a word (R37, R39) and as output signals (R47). -/

namespace Sys2Proof.Machine

/-- R39: STATUS. Bits 0 to 6 are EN, DET1750, DET1750_LONG, SEQ_MATCH, HV, OVR, ERR; [11:8] SYM, [15:12] ECAUSE; the rest read 0. -/
def statusWord (s : State) : Word :=
  0#16 ++ s.ecause ++ s.sym ++ 0#1 ++ BitVec.ofBool s.err ++ BitVec.ofBool s.ovr ++ BitVec.ofBool s.hv
    ++ BitVec.ofBool s.seqMatch ++ BitVec.ofBool s.lng ++ BitVec.ofBool s.det ++ BitVec.ofBool s.en

/-- R47: the output `det1750_o`. -/
def det1750Out (s : State) : Bool := s.det

/-- R47: the output `det1750_long_o`. -/
def det1750LongOut (s : State) : Bool := s.lng

/-- R47: the output `dtmf_match_o`. -/
def dtmfMatchOut (s : State) : Bool := s.seqMatch

end Sys2Proof.Machine
end

