-- ==== Sys2Proof/Machine/Float.lean ====
section
/-! DEFINITION. Binary32 arithmetic (R13): every finite value is an integer multiple of 2^-149, so an operation computes its
exact result as a fraction of such units and rounds it once, to nearest with ties to even, subnormals kept. -/

namespace Sys2Proof.F32

/-- The sign bit. -/
def sign (a : F32) : Bool := a.getLsbD 31

/-- The biased exponent field, bits [30:23]. -/
def expo (a : F32) : Nat := (a.extractLsb' 23 8).toNat

/-- The fraction field, bits [22:0]. -/
def frac (a : F32) : Nat := (a.extractLsb' 0 23).toNat

def isNaN (a : F32) : Bool := expo a == 255 && frac a != 0

def isInf (a : F32) : Bool := expo a == 255 && frac a == 0

def isFinite (a : F32) : Bool := expo a != 255

/-- The magnitude in units of 2^-149. An infinity gets the value above every finite one that its fields spell. -/
def mag (a : F32) : Nat :=
  if expo a = 0 then frac a else (2 ^ 23 + frac a) * 2 ^ (expo a - 1)

/-- The value in units of 2^-149. -/
def scaled (a : F32) : Int := if sign a then -(mag a : Int) else mag a

/-- One in units of 2^-149. -/
def one : Nat := 1 <<< 149

/-- The integer nearest to `n / d`, ties to even. -/
def rne (n d : Nat) : Nat :=
  let q := n / d
  let r := n % d
  if 2 * r < d then q
  else if d < 2 * r then q + 1
  else if q % 2 = 0 then q
  else q + 1

/-- The bits of +infinity. -/
def infBits : Nat := 0x7F800000

/-- The spacing exponent of `n / d` units: 0 below 2^24 units, and one more for each further power of two. -/
def spacing (n d : Nat) : Nat := Nat.log2 (n / d) - 23

/-- The bits, less the sign, of the binary32 value nearest to `n / d` units of 2^-149, ties to even. With spacing exponent k
the significand q is at most 2^24 and the fields are `k * 2^23 + q`, a carry out of the significand included. -/
def roundMag (n d : Nat) : Nat :=
  let k := spacing n d
  min (k * 2 ^ 23 + rne n (d <<< k)) infBits

/-- A magnitude's bits with a sign. -/
def withSign (neg : Bool) (bits : Nat) : F32 :=
  BitVec.ofBool neg ++ BitVec.ofNat 31 bits

/-- Round `n / d` units of 2^-149, with a sign. -/
def round (neg : Bool) (n d : Nat) : F32 := withSign neg (roundMag n d)

def inf (neg : Bool) : F32 := withSign neg infBits

/-- A quiet NaN; which one is a free value (log entry 8). -/
def quietNaN (a b : F32) : F32 := Config.freeNaN a b ||| 0x7FC00000#32

def negate (a : F32) : F32 := a ^^^ 0x80000000#32

/-- The rounded sum of two finite values; an exact zero is +0 unless both operands are −0. -/
def addFinite (a b : F32) : F32 :=
  let v := scaled a + scaled b
  if v = 0 then withSign (sign a && sign b) 0 else round (decide (v < 0)) v.natAbs 1

/-- R13: `a (+) b`. -/
def add (a b : F32) : F32 :=
  if isNaN a || isNaN b then quietNaN a b
  else if isInf a && isInf b && sign a != sign b then quietNaN a b
  else if isInf a then a
  else if isInf b then b
  else addFinite a b

/-- R13: `a (-) b`. -/
def sub (a b : F32) : F32 := add a (negate b)

/-- R13: `a (*) b`. -/
def mul (a b : F32) : F32 :=
  if isNaN a || isNaN b then quietNaN a b
  else if isInf a || isInf b then
    if mag a = 0 || mag b = 0 then quietNaN a b else inf (sign a != sign b)
  else round (sign a != sign b) (mag a * mag b) one

/-- R13: `a (/) b`. -/
def div (a b : F32) : F32 :=
  if isNaN a || isNaN b then quietNaN a b
  else if isInf a then
    if isInf b then quietNaN a b else inf (sign a != sign b)
  else if isInf b then withSign (sign a != sign b) 0
  else if mag b = 0 then
    if mag a = 0 then quietNaN a b else inf (sign a != sign b)
  else round (sign a != sign b) (mag a * one) (mag b)

/-- R13: `f32(k)`; exact for |k| ≤ 2^24. -/
def ofInt (k : Int) : F32 := round (decide (k < 0)) (k.natAbs * one) 1

/-- R13: `trunc_int`, a finite value with its fractional part discarded; free for any other (log entry 9). -/
def truncInt (q : F32) : Int :=
  if isFinite q then (scaled q).tdiv one else Config.freeTrunc q

/-- Numerical order; no NaN is below or above anything. -/
def lt (a b : F32) : Bool := !isNaN a && !isNaN b && decide (scaled a < scaled b)

/-- R13: numerical equality, so +0 equals −0. -/
def eq (a b : F32) : Bool := !isNaN a && !isNaN b && decide (scaled a = scaled b)

/-- R13: `max_f` of two values, one of the operands exactly. -/
def maxF (a b : F32) : F32 := if lt a b then b else a

/-- R13: `min_f` of two values, one of the operands exactly. -/
def minF (a b : F32) : F32 := if lt b a then b else a

end Sys2Proof.F32
end

