-- ==== Sys2Proof/Machine/Operands.lean ====
section
/-! DEFINITION. What the operands of the commands stand for: a sample as a binary32 value (R77, R81), a register index as the
word it reads (R38 to R46). -/

namespace Sys2Proof.Machine

/-- R81: the binary32 value equal to the sample. -/
def sampleValue (x : Int) : F32 := F32.ofInt x

/-- R40: HIST, the history oldest first from the left. -/
def histWord (s : State) : Word := 0#20 ++ s.h.h0 ++ s.h.h1 ++ s.h.h2

/-- R41: SCNT. -/
def scntWord (s : State) : Word := 0#16 ++ BitVec.ofNat 16 s.cnt

/-- R42: C1750, `c17` in [7:0] and `s17` in [23:8]. -/
def c1750Word (s : State) : Word := 0#8 ++ BitVec.ofNat 16 s.s17 ++ BitVec.ofNat 8 s.c17

/-- R43: DTMFT, `since_valid` in [15:0] and `since_push` in [31:16]. -/
def dtmftWord (s : State) : Word := BitVec.ofNat 16 s.sincePush ++ BitVec.ofNat 16 s.sinceValid

/-- R45: STR0..STR4, the 32-bit two's complement of a strength. -/
def strengthWord (s : State) (i : Fin 5) : Word := BitVec.ofInt 32 (s.y.get i)

/-- R38, R118: the word a register index reads, or none for the reserved indices 6, 7, 13, 14, 15 (R46). -/
def readReg (idx : BitVec 4) (s : State) : Option Word :=
  match idx.toNat with
  | 0 => some (statusWord s)
  | 1 => some (histWord s)
  | 2 => some (scntWord s)
  | 3 => some (c1750Word s)
  | 4 => some (dtmftWord s)
  | 5 => some s.anacnt
  | 8 => some (strengthWord s 0)
  | 9 => some (strengthWord s 1)
  | 10 => some (strengthWord s 2)
  | 11 => some (strengthWord s 3)
  | 12 => some (strengthWord s 4)
  | _ => none

end Sys2Proof.Machine
end

