-- ==== Sys2Proof/Machine/Params.lean ====
section
/-! DEFINITION. What a configuration determines: SUSTAIN_BLOCKS (R8), the coefficients (R82), the constraints of R9. -/

namespace Sys2Proof.Machine

/-- R8: `ceil(SUSTAIN_S * FS / N_BLOCK)`, exactly over the rationals. -/
def sustainBlocks (c : Config) : Nat :=
  let d := c.fs.den * c.nBlock
  (c.sustainS * c.fs.num + (d - 1)) / d

/-! R82, a derived coefficient. With F/FS = p/q in lowest terms, `2 cos(2 pi p/q)` is the 2p-th largest of the q − 1 roots
`2 cos(j pi/q)` of the Chebyshev polynomial `U_{q-1}(x/2)`. By Sturm's theorem the sign changes of `U_0, …, U_{q-1}` at
`x/2` count the roots above x, so comparing a fraction with the real number needs integer arithmetic only (DEDUCED, log entry 10). -/

/-- The sign changes in `W_n, …` after the value `prev`, where `W_{n+1} = m W_n − d^2 W_{n-1}` is `U_{n+1}(m/2d)` scaled by
`d^(n+1)`; `pos` is the sign of the last value that is not zero, and zeros are skipped. -/
def signChanges (m : Int) (d : Nat) : Nat → Int → Int → Bool → Nat
  | 0, _, _, _ => 0
  | n + 1, prev, cur, pos =>
    let next := m * cur - (d * d : Nat) * prev
    if cur = 0 then signChanges m d n cur next pos
    else if decide (0 < cur) = pos then signChanges m d n cur next pos
    else signChanges m d n cur next (!pos) + 1

/-- Whether `m / d < 2 cos(2 pi p / q)`, for `p / q` in lowest terms with `0 < p/q < 1/2` and `d` positive. -/
def belowTwoCos (p q : Nat) (m : Int) (d : Nat) : Bool :=
  let g := Nat.gcd m.natAbs d
  decide (2 * p ≤ signChanges (m / g) (d / g) (q - 1) 1 (m / g) true)

/-- The binary32 values with a key: 0 is +0.0, k the k-th value above it, −k its negative. -/
def ofKey (k : Int) : F32 := F32.withSign (decide (k < 0)) k.natAbs

/-- Whether `2 cos(2 pi p / q)` is above the midpoint of the keys `k − 1` and `k`, so that it rounds to key k or higher. (No
such number is a midpoint: where it is rational it is 0, 1 or −1, so no tie arises.) -/
def roundsUpTo (p q : Nat) (k : Int) : Bool :=
  belowTwoCos p q (F32.scaled (ofKey (k - 1)) + F32.scaled (ofKey k)) (F32.one <<< 1)

/-- The largest key in `lo, …, hi − 1` that the target rounds up to, by halving. -/
def searchKey (p q : Nat) : Nat → Int → Int → Int
  | 0, lo, _ => lo
  | n + 1, lo, hi =>
    let mid := (lo + hi) / 2
    if mid ≤ lo then lo
    else if roundsUpTo p q mid then searchKey p q n mid hi
    else searchKey p q n lo mid

/-- The key of 2.0, the bound of every coefficient. -/
def keyTwo : Int := 0x40000000

/-- R82: the binary32 value nearest to the real number `2 cos(2 pi F / FS)`. -/
def deriveCoeff (f fs : Ratio) : F32 :=
  let n := f.num * fs.den
  let d := f.den * fs.num
  let g := Nat.gcd n d
  ofKey (searchKey (n / g) (d / g) 33 (-keyTwo) (keyTwo + 1))

/-- R82: the coefficient of a channel, given by the configuration or derived from F[i] and FS. -/
def coeff (c : Config) (i : Fin 5) : F32 :=
  match c.coeffGiven.get i with
  | some w => w
  | none => deriveCoeff (c.f.get i) c.fs

/-! The constraints of R9. -/

/-- The values of R6's parameters that the state and the register map have room for: at most the five channels of R22 and
R38, of which at most four enter a 4-bit pattern (R15); a block whose sample count fits SCNT (R41); weights that keep a strength
in its range (R48 item 2). R5 lets any of the values change; these bounds are the model's (log entry 7). -/
def sizesOk (c : Config) : Bool :=
  [decide (1 ≤ c.nch), decide (c.nch ≤ 5), decide (c.ndtmf ≤ 4), decide (c.ndtmf ≤ c.nch),
    decide (1 ≤ c.nBlock), decide (c.nBlock ≤ 65536), decide (c.wHist + c.wNew ≤ 2 ^ c.wShift)].all id

/-- R7: FS is a positive rational. -/
def rateOk (c : Config) : Bool := decide (0 < c.fs.num) && decide (0 < c.fs.den)

/-- R9 (a): 0 < F < FS/2. -/
def freqOk (fs f : Ratio) : Bool :=
  decide (0 < f.num) && decide (0 < f.den) && decide (2 * f.num * fs.den < fs.num * f.den)

/-- How many bits of a pattern are set. -/
def ones (p : Symbol) : Nat :=
  (p.getLsbD 0).toNat + (p.getLsbD 1).toNat + (p.getLsbD 2).toNat + (p.getLsbD 3).toNat

/-- R9 (b): at least one row tone and one column tone. -/
def rowMaskOk (c : Config) : Bool := c.rowMask != 0#4 && c.rowMask != 0xF#4

/-- R9 (c): exactly one row bit and exactly one column bit. -/
def codeOk (mask p : Symbol) : Bool := ones (p &&& mask) == 1 && ones (p &&& ~~~mask) == 1

/-- R9 (c), (d): every valid pattern is one row and one column, and there is one. -/
def validOk (c : Config) : Bool := c.validCodes.all (codeOk c.rowMask) && !c.validCodes.isEmpty

/-- Membership in VALID. -/
def isValid (c : Config) (p : Symbol) : Bool := c.validCodes.contains p

/-- R9 (e): every entry of SEQ is a member of VALID. -/
def seqOk (c : Config) : Bool := isValid c c.seq.h0 && isValid c c.seq.h1 && isValid c c.seq.h2

/-- R9 (f): the ranges of R7 and R8. -/
def rangesOk (c : Config) : Bool :=
  [decide (1 ≤ c.normScale), decide (c.normScale ≤ 2 ^ 24), decide (1 ≤ c.n1750), decide (c.n1750 ≤ 255),
    decide (1 ≤ c.noneTimeout), decide (c.noneTimeout ≤ 65535), decide (1 ≤ c.debounce), decide (c.debounce ≤ 65535),
    decide (1 ≤ sustainBlocks c), decide (sustainBlocks c ≤ 65535)].all id

/-- R9 (g): `-NORM_SCALE <= T < NORM_SCALE`. -/
def threshOk (c : Config) (t : Int) : Bool := decide (-(c.normScale : Int) ≤ t) && decide (t < c.normScale)

/-- 93 I3: a coefficient given directly is a binary32 value in [−2, 2]. -/
def givenCoeffOk : Option F32 → Bool
  | none => true
  | some w => F32.isFinite w && decide (F32.mag w ≤ 2 * F32.one)

/-- R9: whether a configuration has a meaning. -/
def configOk (c : Config) : Bool :=
  [sizesOk c, rateOk c, c.f.all (freqOk c.fs), rowMaskOk c, validOk c, seqOk c, rangesOk c,
    threshOk c c.threshDtmf, threshOk c c.thresh1750, c.coeffGiven.all givenCoeffOk].all id

/-- R6: one value for each of the NCH channels; a lane that carries no channel holds `a`. -/
def perChannel {α : Type} (c : Config) (a : α) (f : Fin 5 → α) : Lanes α :=
  Lanes.ofFn fun i => if i.val < c.nch then f i else a

/-- R6: the values of the NCH channels, in channel order. -/
def channelList {α : Type} (c : Config) (l : Lanes α) : List α := l.toList.take c.nch

/-- R15: the digit or letter a valid code stands for; informational. -/
def labelOf (c : Config) (p : Symbol) : Option Char :=
  (c.label.find? fun e => e.1 == p).map fun e => e.2

end Sys2Proof.Machine
end

