-- ==== Sys2Proof/Machine/Ops.lean ====
section
/-! DEFINITION. The named operations over the state: the primitives of R12 and R14, recording an error (the block has no
exception to take: R133), clearing the taps, the reset step, and what a step takes from the host's queue. There is no memory
to operate on (R50). -/

namespace Sys2Proof.Machine

/-- R12: `sat_inc`. -/
def satInc (v m : Nat) : Nat := min (v + 1) m

/-- R12: `sat_dec`, `max(v - 1, 0)`. -/
def satDec (v : Nat) : Nat := v - 1

/-- R12: `clamp`. -/
def clamp (v lo hi : Int) : Int := max lo (min hi v)

/-- R12: `tdiv`, integer division truncating toward zero. -/
def tdiv (a b : Int) : Int := a.tdiv b

/-- R131: the error primitive. -/
def recordError (code : BitVec 4) (s : State) : State := { s with err := true, ecause := code }

/-- R130: the code of ILLEGAL_CMD. -/
def illegalCmd : BitVec 4 := 1#4

/-- R130: the code of RESERVED_REG. -/
def reservedReg : BitVec 4 := 2#4

/-- R14: `rsp <- v`, the response of the current command; the host receives it in the same step (R125). -/
def respond (v : Word) (s : State) : State := { s with rsp := some v, responses := s.responses ++ [v] }

/-- The taps and the sample counter restart from zero: at a block boundary (R85) and at a change of `en` (R116). -/
def restartBlock (s : State) : State :=
  { s with s1 := Lanes.const F32.zero, s2 := Lanes.const F32.zero, cnt := 0 }

/-- R150: the reset step. Every state element takes its reset value; the configuration and the host's side stand. -/
def resetStep (s : State) : State :=
  { State.resetOf s.cfg with responses := s.responses, queue := s.queue }

/-- R56, R136, R163, R166: which step comes next. An AN step is enabled exactly when `hv = 1`; when the host has something to
present as well, its mark says which goes first; with nothing presented an enabled AN step is taken. -/
def turn (s : State) : Turn :=
  match s.queue with
  | [] => if s.hv then .analyze else .quiescent
  | p :: _ =>
    if s.hv && p.anFirst then .analyze
    else match p.event with
      | .word w => .command w
      | .reset _ => .reset

/-- A step that is no command drives no response (R125). -/
def silent (s : State) : State := { s with rsp := none }

/-- The step consumes the host event that is due (R51), and the response port is free for its response. -/
def consume (s : State) : State := { s with rsp := none, queue := s.queue.tail }

/-- The host will present more (R165). -/
def present (ps : List Presented) (s : State) : State := { s with queue := s.queue ++ ps }

/-- A word that is to be presented before everything else, with no AN step before it. -/
def presentNext (w : Word) (s : State) : State :=
  { s with queue := { event := .word w, anFirst := false } :: s.queue }

end Sys2Proof.Machine
end

