-- ==== Sys2Proof/Machine/Analysis.lean ====
section
/-! DEFINITION. ANALYZE, the AN step (R90 to R114), as the sequence of its parts in the order of R90. -/

namespace Sys2Proof.Machine

/-! Normalisation (R92 to R94). -/

/-- A chain of an operation over the channels' energies, left to right from the first (R13, R92). -/
def chain (op : F32 → F32 → F32) : List F32 → F32
  | [] => F32.zero
  | e :: rest => rest.foldl op e

/-- R92: the mean of the channels' energies. -/
def meanOf (c : Config) (e : Lanes F32) : F32 :=
  F32.div (chain F32.add (channelList c e)) (F32.ofInt c.nch)

/-- R92: `mx - mn`. -/
def rangeOf (c : Config) (e : Lanes F32) : F32 :=
  F32.sub (chain F32.maxF (channelList c e)) (chain F32.minF (channelList c e))

/-- R94: the normalised value of one energy when the range is not zero. -/
def normalizeOne (scale : Nat) (mean rng e : F32) : Int :=
  let d := F32.sub e mean
  let p := F32.mul d (F32.ofInt scale)
  let q := F32.div p rng
  clamp (F32.truncInt q) (-(scale : Int)) scale

/-- R92 to R94, R96: the reference value of NORMALIZE, as one function. -/
def normalize (c : Config) (e : Lanes F32) : Lanes Int :=
  let mean := meanOf c e
  let rng := rangeOf c e
  if F32.eq rng F32.zero then Lanes.const 0
  else perChannel c 0 fun i => normalizeOne c.normScale mean rng (e.get i)

/-! The envelope (R95). -/

/-- R95: one strength after the smoothing filter. -/
def smooth (c : Config) (y n : Int) : Int :=
  tdiv (c.wHist * y + c.wNew * n) (2 ^ c.wShift)

/-- R95: every strength takes its new value. -/
def smoothAll (n : Lanes Int) (s : State) : State :=
  { s with y := perChannel s.cfg 0 fun i => smooth s.cfg (s.y.get i) (n.get i) }

/-! The 1750 Hz decision (R98 to R100). -/

/-- R98: the strength of channel 4 is strictly above its threshold. -/
def above1750 (s : State) : Bool := decide (s.cfg.thresh1750 < s.y.c4)

/-- R98: the up/down counter. -/
def nextC17 (s : State) : Nat := if above1750 s then satInc s.c17 s.cfg.n1750 else satDec s.c17

/-- R99: presence, from the counter's new value. -/
def nextDet (s : State) : Bool :=
  if nextC17 s = s.cfg.n1750 then true else if nextC17 s = 0 then false else s.det

/-- R100: the count of continued presence. -/
def nextS17 (s : State) : Nat :=
  if s.det && nextDet s then satInc s.s17 (sustainBlocks s.cfg) else 0

/-- R98 to R100. -/
def decide1750 (s : State) : State :=
  { s with
    c17 := nextC17 s
    det := nextDet s
    s17 := nextS17 s
    lng := nextS17 s == sustainBlocks s.cfg }

/-! DTMF decoding and the history (R103 to R110). -/

/-- R103: whether one of the NDTMF channels has a strength strictly above the DTMF threshold. -/
def aboveDtmf (s : State) (i : Fin 5) : Bool := decide (i.val < s.cfg.ndtmf) && decide (s.cfg.threshDtmf < s.y.get i)

/-- R103: the tone pattern, bit k for channel k. -/
def tonePattern (s : State) : Symbol :=
  BitVec.ofBool (aboveDtmf s 3) ++ BitVec.ofBool (aboveDtmf s 2) ++ BitVec.ofBool (aboveDtmf s 1)
    ++ BitVec.ofBool (aboveDtmf s 0)

/-- R104: the symbol a pattern decodes to. -/
def symbolOf (c : Config) (p : Symbol) : Symbol := if isValid c p then p else Symbol.none

/-- R103, R104: decode the symbol of this analysis. -/
def decodeDtmf (s : State) : State := { s with sym := symbolOf s.cfg (tonePattern s) }

/-- R106, R107: the two timers count this analysis. -/
def countTimers (s : State) : State :=
  { s with
    sincePush := satInc s.sincePush s.cfg.debounce
    sinceValid := if s.sym = Symbol.none then satInc s.sinceValid s.cfg.noneTimeout else 0 }

/-- R107: the candidate, if there is one. -/
def candidate (s : State) : Option Symbol :=
  if s.sym = Symbol.none then
    if s.sinceValid = s.cfg.noneTimeout then some Symbol.none else none
  else some s.sym

/-- R109: a push shifts the window by one and restarts the debounce counter. -/
def push (cand : Symbol) (s : State) : State :=
  { s with h := { h0 := s.h.h1, h1 := s.h.h2, h2 := cand }, sincePush := 0 }

/-- R108: the push decision. -/
def maybePush (s : State) : State :=
  match candidate s with
  | some cand => if cand ≠ s.h.h2 ∧ s.sincePush = s.cfg.debounce then push cand s else s
  | none => s

/-- R110: the sequence match. -/
def matchSeq (s : State) : State := { s with seqMatch := s.h == s.cfg.seq }

/-- R112: completion. -/
def finishAnalysis (s : State) : State := { s with hv := false, anacnt := s.anacnt + 1 }

/-- R90 with NORMALIZE as a parameter (R96): the new state of one analysis. -/
def analyzeWith (norm : Lanes F32 → Lanes Int) (s : State) : State :=
  finishAnalysis (matchSeq (maybePush (countTimers (decodeDtmf (decide1750 (smoothAll (norm s.he) s))))))

/-- R90: ANALYZE, with the reference NORMALIZE. It never fails. -/
def execAnalyze (s : State) : Result := .next (analyzeWith (normalize s.cfg) s)

end Sys2Proof.Machine
end

