-- ==== Sys2Proof/Machine/Control.lean ====
section
/-! DEFINITION. NOP, SETEN, RDREG, CLRST and the effect of an ILLEGAL word (R115 to R123). -/

namespace Sys2Proof.Machine

/-- R115: NOP. -/
def execNop (s : State) : Result := .next s

/-- R116: SETEN; a change of level in either direction is an activation boundary. -/
def execSeten (e : Bool) (s : State) : Result :=
  if e = s.en then .next s else .next { restartBlock s with en := e }

/-- R118, R119: RDREG; a reserved index reads 0 and records RESERVED_REG. -/
def execRdreg (idx : BitVec 4) (s : State) : Result :=
  match readReg idx s with
  | some v => .next (respond v s)
  | none => .next (recordError reservedReg (respond 0#32 s))

/-- R121: `m[0]` clears the error record. -/
def clearErr (m : BitVec 2) (s : State) : State :=
  if m.getLsbD 0 then { s with err := false, ecause := 0 } else s

/-- R121: `m[1]` clears the overrun record. -/
def clearOvr (m : BitVec 2) (s : State) : State :=
  if m.getLsbD 1 then { s with ovr := false } else s

/-- R121: CLRST. -/
def execClrst (m : BitVec 2) (s : State) : Result := .next (clearOvr m (clearErr m s))

/-- R123: ILLEGAL. -/
def execIllegal (s : State) : Result := .next (recordError illegalCmd s)

end Sys2Proof.Machine
end

