-- ==== Sys2Proof/Machine/SamplePath.lean ====
section
/-! DEFINITION. SAMPLE: the Goertzel recursion, the sample counter and block completion (R80 to R89). -/

namespace Sys2Proof.Machine

/-- R83: the recursion's next output of a channel, `(xf + COEFF * s1) - s2`, rounded operation by operation. -/
def channelUpdate (c s1 s2 xf : F32) : F32 :=
  let t := F32.mul c s1
  let u := F32.add xf t
  F32.sub u s2

/-- R83, R89: all the channels on the same sample value. -/
def updateTaps (xf : F32) (s : State) : State :=
  { s with
    s1 := perChannel s.cfg F32.zero fun i => channelUpdate (coeff s.cfg i) (s.s1.get i) (s.s2.get i) xf
    s2 := s.s1 }

/-- R84: one more accepted sample. -/
def countSample (s : State) : State := { s with cnt := s.cnt + 1 }

/-- R87: the energy of a channel from its taps. -/
def energy (c s1 s2 : F32) : F32 :=
  let a := F32.mul s1 s1
  let b := F32.mul s2 s2
  let ab := F32.add a b
  let cs := F32.mul c s1
  let p := F32.mul cs s2
  F32.sub ab p

/-- R85: the energies of the block. -/
def energies (s : State) : Lanes F32 :=
  perChannel s.cfg F32.zero fun i => energy (coeff s.cfg i) (s.s1.get i) (s.s2.get i)

/-- R86: the energies go into the slot, or the block is skipped when the slot is full. -/
def handoff (e : Lanes F32) (s : State) : State :=
  if s.hv then { s with ovr := true } else { s with he := e, hv := true }

/-- R85: the block boundary. -/
def completeBlock (s : State) : State := restartBlock (handoff (energies s) s)

/-- R80, R83, R84: an accepted sample before the block boundary is looked at. -/
def acceptSample (x : Int) (s : State) : State := countSample (updateTaps (sampleValue x) s)

/-- R80: SAMPLE. -/
def execSample (x : Int) (s : State) : Result :=
  if s.en then
    let t := acceptSample x s
    if t.cnt = t.cfg.nBlock then .next (completeBlock t) else .next t
  else .next s

end Sys2Proof.Machine
end

