-- ==== Sys2Proof/Machine/Dispatch.lean ====
section
/-! DEFINITION. The meaning of every command: one arm per constructor. -/

namespace Sys2Proof.Machine

def exec (i : Instr) (s : State) : Host.Outcome State Fault Refusal :=
  match i with
  | .nop => Sys2Proof.Machine.execNop s
  | .sample x => Sys2Proof.Machine.execSample x s
  | .seten e => Sys2Proof.Machine.execSeten e s
  | .rdreg idx => Sys2Proof.Machine.execRdreg idx s
  | .clrst m => Sys2Proof.Machine.execClrst m s

end Sys2Proof.Machine
end

