-- ==== Sys2Proof/Machine/Step.lean ====
section
/-! DEFINITION. One step of the block (R56): a command, an analysis, a reset, or nothing when it is quiescent. -/

namespace Sys2Proof.Machine

/-- R76: run a command word; a word no row matches is ILLEGAL (R73). -/
def runWord (w : Word) (s : State) : Result :=
  match decode w with
  | .ok i => exec i s
  | .error _ => execIllegal s

/-- R56: one step. A configuration that fails R9 is refused. -/
def step (s : State) : Host.Outcome State Fault Refusal :=
  if configOk s.cfg then
    match turn s with
    | .quiescent => .next (silent s)
    | .analyze => execAnalyze (silent s)
    | .command w => runWord w (consume s)
    | .reset => .next (resetStep (consume s))
  else .refused .configRefused

/-- The state with a table row's word as the next thing the host presents, before any AN step (log entry 5). -/
def State.withFetchWord (s : State) (nbits w : Nat) : State :=
  presentNext (BitVec.ofNat 32 (w % 2 ^ nbits)) s

end Sys2Proof.Machine
end

