-- ==== Sys2Proof/Machine/Asm.lean ====
section
/-! DEFINITION. The assembler of R78 and R79: from source lines to what the host presents, schedule marks included. It is
notation for command programs; no step reads it. -/

namespace Sys2Proof.Machine

/-- A source line (R78, R79); the pseudo-instructions are read as the commands they expand to. -/
inductive AsmLine where
  | blank
  | command (i : Instr)
  | word (w : Word)
  | rep (n : Nat)
  | endr
  | tone (c1 : Fin 5) (c2 : Option (Fin 5)) (n : Nat)
  | silence (n : Nat)
  | analyze
  | eager
  | lazy
  deriving DecidableEq, Repr

/-- R79: the test-tone table T[c]; its length is the period P(c). -/
def toneTable (c : Fin 5) : List Int :=
  match c with
  | 0 => [1000, 866, 500, 0, -500, -866, -1000, -866, -500, 0, 500, 866]
  | 1 => [1000, 809, 309, -309, -809, -1000, -809, -309, 309, 809]
  | 2 => [1000, 500, -500, -1000, -500, 500]
  | 3 => [1000, 309, -809, -809, 309]
  | 4 => [1000, 0, -1000, 0]

/-- R79: `T[c][k mod P(c)]`. -/
def toneSample (c : Fin 5) (k : Nat) : Int :=
  let t := toneTable c
  t.getD (k % t.length) 0

/-- R79: the k-th sample of a `.tone` directive. -/
def toneValue (c1 : Fin 5) (c2 : Option (Fin 5)) (k : Nat) : Int :=
  match c2 with
  | none => toneSample c1 k
  | some c => toneSample c1 k + toneSample c k

/-- The words a line emits; schedule marks and block brackets emit none. -/
def lineWords : AsmLine → List Word
  | .command i => [encode i]
  | .word w => [w]
  | .tone c1 c2 n => (List.range n).map fun k => encode (.sample (toneValue c1 c2 k))
  | .silence n => List.replicate n (encode (.sample 0))
  | .blank | .rep _ | .endr | .analyze | .eager | .lazy => []

/-- A list `n` times over. -/
def repeated (n : Nat) (ls : List AsmLine) : List AsmLine := (List.replicate n ls).flatten

/-- R79: `.rep n` … `.endr` expanded; `stack` holds the open blocks' counts and the lines before them. None where the
brackets do not match. -/
def expandReps : List AsmLine → List (Nat × List AsmLine) → List AsmLine → Option (List AsmLine)
  | [], [], acc => some acc
  | [], _ :: _, _ => none
  | .rep n :: rest, stack, acc => expandReps rest ((n, acc) :: stack) []
  | .endr :: rest, (n, outer) :: stack, acc => expandReps rest stack (outer ++ repeated n acc)
  | .endr :: _, [], _ => none
  | l :: rest, stack, acc => expandReps rest stack (acc ++ [l])

/-- The marks of words presented in a row: `due` is the mark of the first, and each later one is marked when the schedule
is eager. -/
def marked (eager due : Bool) : List Word → List Presented
  | [] => []
  | w :: rest => { event := .word w, anFirst := due } :: marked eager eager rest

/-- The mark of whatever comes after some words. -/
def dueAfter (eager due : Bool) : List Word → Bool
  | [] => due
  | _ :: _ => eager

/-- R79: the schedule of a program. `due` says that an AN step is to be taken here if one is enabled: after a command in an
eager part, or at an `.analyze` mark (log entry 12). -/
def schedule (eager due : Bool) : List AsmLine → List Presented
  | [] => []
  | .analyze :: rest => schedule eager true rest
  | .eager :: rest => schedule true due rest
  | .lazy :: rest => schedule false due rest
  | l :: rest => marked eager due (lineWords l) ++ schedule eager (dueAfter eager due (lineWords l)) rest

/-- What the host presents for a program of parsed lines; a program starts eager (R79). -/
def assembleLines (ls : List AsmLine) : Option (List Presented) :=
  (expandReps ls [] []).map (schedule true false)

/-! Reading the text (R78). -/

/-- R78: `;` starts a comment to the end of the line. -/
def stripComment (cs : List Char) : List Char := cs.takeWhile fun c => c != ';'

def isSeparator (c : Char) : Bool := c == ' ' || c == '\t' || c == ','

/-- The tokens of a line, split at blanks and commas; `cur` is the token read so far, reversed. -/
def tokens : List Char → List Char → List String
  | [], cur => if cur.isEmpty then [] else [String.ofList cur.reverse]
  | c :: rest, cur =>
    if isSeparator c then
      if cur.isEmpty then tokens rest [] else String.ofList cur.reverse :: tokens rest []
    else tokens rest (c :: cur)

/-- The value of a digit, decimal or hexadecimal. -/
def digitValue (c : Char) : Option Nat :=
  if '0' ≤ c ∧ c ≤ '9' then some (c.toNat - '0'.toNat)
  else if 'a' ≤ c ∧ c ≤ 'f' then some (c.toNat - 'a'.toNat + 10)
  else if 'A' ≤ c ∧ c ≤ 'F' then some (c.toNat - 'A'.toNat + 10)
  else none

/-- The number some digits spell in a base, added to what was read before them. -/
def readDigits (base : Nat) : List Char → Nat → Option Nat
  | [], acc => some acc
  | c :: rest, acc =>
    match digitValue c with
    | some d => if d < base then readDigits base rest (acc * base + d) else none
    | none => none

/-- R78: a number without its sign, decimal or with `0x` hexadecimal. -/
def readNat : List Char → Option Nat
  | [] => none
  | ['0', 'x'] => none
  | '0' :: 'x' :: ds => readDigits 16 ds 0
  | ds => readDigits 10 ds 0

/-- R78: a signed number. -/
def readSigned : List Char → Option Int
  | '-' :: ds => (readNat ds).map fun n => -(n : Int)
  | ds => (readNat ds).map fun n => (n : Int)

/-- R78: an operand, optionally preceded by `#`. -/
def readOperand (t : String) : Option Int :=
  match t.toList with
  | '#' :: ds => readSigned ds
  | ds => readSigned ds

/-- An operand in `0, …, bound − 1`; an operand out of its range is an assembly error (R78). -/
def readBelow (bound : Nat) (t : String) : Option Nat :=
  match readOperand t with
  | some v => if 0 ≤ v ∧ v < bound then some v.toNat else none
  | none => none

/-- R78: the register names. -/
def regNames : List (String × BitVec 4) :=
  [("STATUS", 0), ("HIST", 1), ("SCNT", 2), ("C1750", 3), ("DTMFT", 4), ("ANACNT", 5), ("STR0", 8), ("STR1", 9),
   ("STR2", 10), ("STR3", 11), ("STR4", 12)]

/-- R78: a register name or index. -/
def readRegister (t : String) : Option (BitVec 4) :=
  match regNames.lookup t with
  | some r => some r
  | none => (readBelow 16 t).map (BitVec.ofNat 4)

/-- A channel number of a `.tone` directive. -/
def readChannel (t : String) : Option (Fin 5) :=
  match readBelow 5 t with
  | some 0 => some 0
  | some 1 => some 1
  | some 2 => some 2
  | some 3 => some 3
  | some 4 => some 4
  | _ => none

/-- A repetition or sample count, at least 0. -/
def readCount (t : String) : Option Nat :=
  match readOperand t with
  | some v => if 0 ≤ v then some v.toNat else none
  | none => none

/-- R78: SAMPLE's operand, in −32768 … 32767. -/
def readSample (t : String) : Option Int :=
  match readOperand t with
  | some v => if sampleInRange v then some v else none
  | none => none

/-- R78, R79: the line a row of tokens is. -/
def parseTokens : List String → Option AsmLine
  | [] => some .blank
  | ["NOP"] => some (.command .nop)
  | ["SAMPLE", v] => (readSample v).map fun x => .command (.sample x)
  | ["SETEN", v] => (readBelow 2 v).map fun e => .command (.seten (e == 1))
  | ["RDREG", v] => (readRegister v).map fun r => .command (.rdreg r)
  | ["CLRST", v] => (readBelow 4 v).map fun m => .command (.clrst (BitVec.ofNat 2 m))
  | ["ENABLE"] => some (.command (.seten true))
  | ["DISABLE"] => some (.command (.seten false))
  | ["CLRERR"] => some (.command (.clrst 1))
  | ["CLROVR"] => some (.command (.clrst 2))
  | ["CLRALL"] => some (.command (.clrst 3))
  | [".word", v] => (readBelow (2 ^ 32) v).map fun w => .word (BitVec.ofNat 32 w)
  | [".rep", v] => (readCount v).map .rep
  | [".endr"] => some .endr
  | [".tone", c, v] =>
    match readChannel c, readCount v with
    | some c1, some n => some (.tone c1 none n)
    | _, _ => none
  | [".tone", c, d, v] =>
    match readChannel c, readChannel d, readCount v with
    | some c1, some c2, some n => some (.tone c1 (some c2) n)
    | _, _, _ => none
  | [".silence", v] => (readCount v).map .silence
  | [".analyze"] => some .analyze
  | [".eager"] => some .eager
  | [".lazy"] => some .lazy
  | _ => none

/-- R78: one source line. -/
def parseLine (l : String) : Option AsmLine := parseTokens (tokens (stripComment l.toList) [])

/-- The lines of a program, or none where one of them is an assembly error. -/
def parseLines : List String → Option (List AsmLine)
  | [] => some []
  | l :: rest =>
    match parseLine l, parseLines rest with
    | some a, some as => some (a :: as)
    | _, _ => none

/-- R78, R79: what the host presents for a program's source lines; none is an assembly error. -/
def assemble (ls : List String) : Option (List Presented) := (parseLines ls).bind assembleLines

end Sys2Proof.Machine
end

