-- ==== Sys2Proof/Safety.lean ====
section
/-! DEFINITION. The terms claims are stated in: the invariants of R48, which agent owns what (R20, R21 to R34), the states a run
reaches, and when a binary32 value is the nearest to a number. No step reads any of it. -/

namespace Sys2Proof.Machine

/-! The invariants of R48, by their numbers. -/

/-- R48 item 1. -/
abbrev CountInv (s : State) : Prop := s.cnt < s.cfg.nBlock

/-- R48 item 2. -/
abbrev StrengthInv (s : State) : Prop :=
  ∀ i, -(s.cfg.normScale : Int) ≤ s.y.get i ∧ s.y.get i ≤ s.cfg.normScale

/-- R48 item 3. -/
abbrev PresenceInv (s : State) : Prop :=
  s.c17 ≤ s.cfg.n1750 ∧ (s.c17 = s.cfg.n1750 → s.det = true) ∧ (s.c17 = 0 → s.det = false)

/-- R48 item 4. -/
abbrev SustainInv (s : State) : Prop :=
  s.s17 ≤ sustainBlocks s.cfg ∧ (s.lng = true ↔ s.s17 = sustainBlocks s.cfg) ∧ (0 < s.s17 → s.det = true)

/-- A symbol is NONE or a member of VALID (R15). -/
abbrev IsSymbol (c : Config) (p : Symbol) : Prop := p = Symbol.none ∨ isValid c p = true

/-- R48 item 5. -/
abbrev SymbolInv (s : State) : Prop :=
  IsSymbol s.cfg s.sym ∧ IsSymbol s.cfg s.h.h0 ∧ IsSymbol s.cfg s.h.h1 ∧ IsSymbol s.cfg s.h.h2

/-- R48 item 6. -/
abbrev TimerInv (s : State) : Prop := s.sinceValid ≤ s.cfg.noneTimeout ∧ s.sincePush ≤ s.cfg.debounce

/-- R48 item 7. -/
abbrev MatchInv (s : State) : Prop := s.seqMatch = true ↔ s.h = s.cfg.seq

/-- R48 item 8: adjacent entries are equal only where the NONE of reset still stands in both. -/
abbrev AdjacentInv (s : State) : Prop :=
  (s.h.h1 = s.h.h2 → s.h.h0 = Symbol.none ∧ s.h.h1 = Symbol.none ∧ s.h.h2 = Symbol.none)
    ∧ (s.h.h0 = s.h.h1 → s.h.h0 = Symbol.none ∧ s.h.h1 = Symbol.none)

/-- R48 items 1 to 8 together. -/
structure Inv (s : State) : Prop where
  count : CountInv s
  strength : StrengthInv s
  presence : PresenceInv s
  sustain : SustainInv s
  symbol : SymbolInv s
  timer : TimerInv s
  seqMatch : MatchInv s
  adjacent : AdjacentInv s

/-- R48 item 9, R88: every binary32 value held is finite. -/
abbrev FiniteInv (s : State) : Prop :=
  ∀ i, F32.isFinite (s.s1.get i) = true ∧ F32.isFinite (s.s2.get i) = true ∧ F32.isFinite (s.he.get i) = true

/-! The invariants of R48 item 9 and of R164, in the form that one step keeps. -/

/-- R83: the two taps of a channel after some samples, by the recursion from +0.0. -/
def tapsOf (coeff : F32) (xs : List Int) : F32 × F32 :=
  xs.foldl (fun p x => (F32.sub (F32.add (F32.ofInt x) (F32.mul coeff p.1)) p.2, p.1)) (F32.zero, F32.zero)

/-- R84, R85, R88: the taps are those the recursion gives on the samples accepted since the last block boundary, 16 bits each,
`cnt` of them; the energies in the slot are finite. -/
structure RecursionInv (s : State) : Prop where
  taps : ∃ xs : List Int, xs.length = s.cnt ∧ (∀ x ∈ xs, sampleInRange x = true) ∧
    ∀ i : Fin 5, (s.s1.get i, s.s2.get i)
      = if i.val < s.cfg.nch then tapsOf (coeff s.cfg i) xs else (F32.zero, F32.zero)
  energies : ∀ i, F32.isFinite (s.he.get i) = true

/-- R164: what holds of a state with n analyses since the last reset. An entry of the history that is not NONE was pushed:
the newest at analysis 1 or later, each one before it DEBOUNCE analyses earlier, and `since_push` analyses have passed since. -/
structure CountedInv (n : Nat) (s : State) : Prop where
  c17 : s.c17 ≤ n
  det : s.det = true → s.cfg.n1750 ≤ n
  s17 : 0 < s.s17 → s.cfg.n1750 + s.s17 ≤ n
  lng : s.lng = true → s.cfg.n1750 + sustainBlocks s.cfg ≤ n
  newest : s.h.h2 ≠ Symbol.none → 1 + s.sincePush ≤ n
  middle : s.h.h1 ≠ Symbol.none → 1 + s.cfg.debounce + s.sincePush ≤ n
  oldest : s.h.h0 ≠ Symbol.none → 1 + 2 * s.cfg.debounce + s.sincePush ≤ n
  seqMatch : s.seqMatch = true → 1 + 2 * s.cfg.debounce ≤ n

/-- How many analyses there were since the last reset after a state's step, n before it. -/
def analysesAfterStep (n : Nat) (s : State) : Nat :=
  match turn s with
  | .analyze => n + 1
  | .reset => 0
  | .command _ | .quiescent => n

/-! Who owns what. -/

/-- Everything only AN writes (R25 to R32) is the same in two states; `hv`, which both agents write, is not part of it. -/
structure SameAnalysis (s t : State) : Prop where
  y : t.y = s.y
  c17 : t.c17 = s.c17
  det : t.det = s.det
  s17 : t.s17 = s.s17
  lng : t.lng = s.lng
  sym : t.sym = s.sym
  h : t.h = s.h
  sinceValid : t.sinceValid = s.sinceValid
  sincePush : t.sincePush = s.sincePush
  seqMatch : t.seqMatch = s.seqMatch
  anacnt : t.anacnt = s.anacnt

/-- Everything only CMD writes (R21 to R24, R33, R34) is the same in two states; `hv` is not part of it. -/
structure SameCommand (s t : State) : Prop where
  en : t.en = s.en
  s1 : t.s1 = s.s1
  s2 : t.s2 = s.s2
  cnt : t.cnt = s.cnt
  he : t.he = s.he
  ovr : t.ovr = s.ovr
  err : t.err = s.err
  ecause : t.ecause = s.ecause

/-! Runs. -/

/-- The states a run reaches: from the reset state of a configuration with a meaning, by steps, with the host presenting
anything at any time (R56, R165). -/
inductive Reachable : State → Prop where
  | init (c : Config) (ok : configOk c = true) : Reachable (State.resetOf c)
  | more (s : State) (ps : List Presented) (r : Reachable s) : Reachable (present ps s)
  | step (s t : State) (r : Reachable s) (st : Machine.step s = .next t) : Reachable t

/-- The states a run reaches with how many analyses it made since the last reset (R164). -/
inductive ReachableAfter : Nat → State → Prop where
  | init (c : Config) (ok : configOk c = true) : ReachableAfter 0 (State.resetOf c)
  | more (n : Nat) (s : State) (ps : List Presented) (r : ReachableAfter n s) : ReachableAfter n (present ps s)
  | analysis (n : Nat) (s t : State) (r : ReachableAfter n s) (tu : turn s = .analyze)
      (st : Machine.step s = .next t) : ReachableAfter (n + 1) t
  | reset (n : Nat) (s t : State) (r : ReachableAfter n s) (tu : turn s = .reset)
      (st : Machine.step s = .next t) : ReachableAfter 0 t
  | command (n : Nat) (s t : State) (w : Word) (r : ReachableAfter n s) (tu : turn s = .command w)
      (st : Machine.step s = .next t) : ReachableAfter n t
  | quiescent (n : Nat) (s t : State) (r : ReachableAfter n s) (tu : turn s = .quiescent)
      (st : Machine.step s = .next t) : ReachableAfter n t

/-! Binary32 values as numbers. -/

/-- The real number a finite binary32 value is. -/
noncomputable def realOf (a : F32) : ℝ := (F32.scaled a : ℝ) / 2 ^ 149

/-- R13: `n / d` units of 2^-149 are below `(2^24 - 1/2) * 2^104` in magnitude, the least that rounds past every finite value. -/
abbrev BelowOverflow (n : Int) (d : Nat) : Prop := n.natAbs < (2 ^ 25 - 1) * 2 ^ 252 * d

/-- A value is a finite binary32 value nearest to `n / d` units of 2^-149, and where another finite value is as near, its last
bit is 0 (ties to even, R13). -/
def NearestTo (r : F32) (n : Int) (d : Nat) : Prop :=
  F32.isFinite r = true ∧
    ∀ w : F32, F32.isFinite w = true →
      (F32.scaled r * d - n).natAbs ≤ (F32.scaled w * d - n).natAbs ∧
        ((F32.scaled r * d - n).natAbs = (F32.scaled w * d - n).natAbs →
          F32.scaled w ≠ F32.scaled r → r.getLsbD 0 = false)

end Sys2Proof.Machine
end

