-- ==== Sys2Proof/Certificates/Slice0/Obligations.lean ====
section
/-! DEFINITION. The statements for the provers. Every one is about all states and all configurations, unless it says otherwise;
the configuration is `s.cfg`. A statement of what an instruction does is an equation for the whole next state, so it states
completion, result and frame at once. -/

open Sys2Proof Sys2Proof.Machine

/-! ## Encoding -/

/-- R68 to R72, R76: decoding the word of a command the word can carry gives the command, with every operand at every value. -/
def Obligations.DecodeEncodeRoundTrip : Prop :=
  ∀ i : Instr, i.wf = true → decode (encode i) = .ok i ∧ decodeTableWord 32 (encode i).toNat = some i

/-- R67, R76: a word that decodes is the word of the well-formed command it decodes to: no bit of it is dropped. -/
def Obligations.EncodeDecodeRoundTrip : Prop :=
  ∀ (w : Word) (i : Instr), decode w = .ok i → i.wf = true ∧ encode i = w

/-- Words written out bit by bit from R68 to R72 decode to the commands they stand for. -/
def Obligations.WrittenOutWordsDecode : Prop :=
  decode 0b00000000000000000000000000000000#32 = .ok .nop
    ∧ decode 0b00010000000000000000001111101000#32 = .ok (.sample 1000)
    ∧ decode 0b00010000000000001111110000011000#32 = .ok (.sample (-1000))
    ∧ decode 0b00100000000000000000000000000001#32 = .ok (.seten true)
    ∧ decode 0b00110000000000000000000000001100#32 = .ok (.rdreg 12#4)
    ∧ decode 0b01000000000000000000000000000010#32 = .ok (.clrst 2#2)

/-- R67: the rows are disjoint, so at most one row matches a word. -/
def Obligations.OpcodeRowsDisjoint : Prop :=
  ∀ (w : Word) (r q : OpRow), r ∈ opRows → q ∈ opRows → r.admits w = true → q.admits w = true → r = q

/-- R73, R123: which words are ILLEGAL, that an ILLEGAL word records error 1 and does nothing else, and that every word has a
defined effect. -/
def Obligations.IllegalWordsRecordErrorOne : Prop :=
  ∀ (w : Word) (s : State),
    ((∃ e, decode w = .error e) ↔
      (5 ≤ (w.extractLsb' 28 4).toNat
        ∨ (w.extractLsb' 28 4 = 0#4 ∧ w.extractLsb' 0 28 ≠ 0#28)
        ∨ (w.extractLsb' 28 4 = 1#4 ∧ w.extractLsb' 16 12 ≠ 0#12)
        ∨ (w.extractLsb' 28 4 = 2#4 ∧ w.extractLsb' 1 27 ≠ 0#27)
        ∨ (w.extractLsb' 28 4 = 3#4 ∧ w.extractLsb' 4 24 ≠ 0#24)
        ∨ (w.extractLsb' 28 4 = 4#4 ∧ w.extractLsb' 2 26 ≠ 0#26)))
    ∧ ((∃ e, decode w = .error e) → runWord w s = .next { s with err := true, ecause := 1#4 })
    ∧ ∃ t, runWord w s = .next t

/-- R52: four bytes, the lowest address holding bits [7:0], decode as the word they are, and the rest is left. -/
def Obligations.BytesDecodeLittleEndian : Prop :=
  ∀ (w : Word) (rest : List Byte),
    decodeBytes (bytesOfWord w ++ rest) =
      (match decode w with
        | .ok i => .ok (i, rest)
        | .error e => .error e)

/-- R78, R79: an operand that is a number in its range is the operand read, and one out of its range, or that is no number, is an
assembly error for every mnemonic and directive; a register name stands for its index; a line that is read emits the words of
well-formed commands, but for `.word`; a `.tone` sample is a 16-bit value and is the one its word carries. -/
def Obligations.AssembledWordsDecode : Prop :=
  (∀ (v : String) (k : Int), readOperand v = some k →
      parseTokens ["SAMPLE", v] = (if -32768 ≤ k ∧ k ≤ 32767 then some (.command (.sample k)) else none)
        ∧ parseTokens ["SETEN", v] =
            (if k = 0 then some (.command (.seten false)) else if k = 1 then some (.command (.seten true)) else none)
        ∧ parseTokens ["RDREG", v] =
            (if 0 ≤ k ∧ k ≤ 15 then some (.command (.rdreg (BitVec.ofInt 4 k))) else none)
        ∧ parseTokens ["CLRST", v] =
            (if 0 ≤ k ∧ k ≤ 3 then some (.command (.clrst (BitVec.ofInt 2 k))) else none)
        ∧ parseTokens [".word", v] = (if 0 ≤ k ∧ k < 2 ^ 32 then some (.word (BitVec.ofInt 32 k)) else none)
        ∧ parseTokens [".rep", v] = (if 0 ≤ k then some (.rep k.toNat) else none)
        ∧ parseTokens [".silence", v] = (if 0 ≤ k then some (.silence k.toNat) else none))
    ∧ (∀ v : String, readOperand v = none →
        (∀ m ∈ ["SAMPLE", "SETEN", "CLRST", ".word", ".rep", ".silence"], parseTokens [m, v] = none)
          ∧ ((∀ p ∈ regNames, v ≠ p.1) → parseTokens ["RDREG", v] = none))
    ∧ (∀ p ∈ regNames, parseTokens ["RDREG", p.1] = some (.command (.rdreg p.2)))
    ∧ (∀ (l : String) (a : AsmLine), parseLine l = some a →
        (∀ i, a = .command i → i.wf = true)
          ∧ ((∀ v, a ≠ .word v) → ∀ w ∈ lineWords a, ∃ i, i.wf = true ∧ encode i = w ∧ decode w = .ok i))
    ∧ ∀ (c1 : Fin 5) (c2 : Option (Fin 5)) (n k : Nat),
        sampleInRange (toneValue c1 c2 k) = true
          ∧ (lineWords (.tone c1 c2 n)).length = n
          ∧ (k < n → ∃ w, (lineWords (.tone c1 c2 n))[k]? = some w ∧ decode w = .ok (.sample (toneValue c1 c2 k)))

/-! ## Steps and agents -/

/-- A step runs the decoded command: with the host event consumed and the response port free, it is exec of the command. -/
def Obligations.StepRunsDecodedCommand : Prop :=
  ∀ (s : State) (w : Word) (f : Bool) (rest : List Presented) (i : Instr),
    configOk s.cfg = true → s.queue = { event := .word w, anFirst := f } :: rest → (s.hv && f) = false →
      decode w = .ok i → step s = exec i { s with rsp := none, queue := rest }

/-- A step on an ILLEGAL word records error 1 and consumes the word (R73, R123). -/
def Obligations.StepRecordsIllegalWord : Prop :=
  ∀ (s : State) (w : Word) (f : Bool) (rest : List Presented) (e : Illegal),
    configOk s.cfg = true → s.queue = { event := .word w, anFirst := f } :: rest → (s.hv && f) = false →
      decode w = .error e → step s = .next { s with rsp := none, queue := rest, err := true, ecause := 1#4 }

/-- R56 (b), R90: an AN step is never taken while the slot is empty, and a full slot is analysed when nothing is presented or
the host event that is due lets AN go first. That a pending block is analysed when nothing is presented is the model's
reading of R166 (log entry 3). -/
def Obligations.AnalyzeStepNeedsFullSlot : Prop :=
  ∀ s : State, configOk s.cfg = true →
    (turn s = .analyze → s.hv = true)
      ∧ (s.hv = true → (s.queue = [] ∨ ∃ p rest, s.queue = p :: rest ∧ p.anFirst = true) →
          step s = execAnalyze { s with rsp := none })

/-- R136: when a command is presented and `hv = 1` either may go first; the mark of the presented word is the model's way of
saying which (log entry 2). -/
def Obligations.EitherAgentMayGoFirst : Prop :=
  ∀ (s : State) (w : Word) (rest : List Presented), configOk s.cfg = true → s.hv = true →
    step { s with queue := { event := .word w, anFirst := true } :: rest }
        = execAnalyze { s with rsp := none, queue := { event := .word w, anFirst := true } :: rest }
      ∧ step { s with queue := { event := .word w, anFirst := false } :: rest }
        = runWord w { s with rsp := none, queue := rest }

/-- R163: with the slot empty and nothing presented a step changes no state. -/
def Obligations.QuiescentStepChangesNothing : Prop :=
  ∀ s : State, configOk s.cfg = true → s.hv = false → s.queue = [] → step s = .next { s with rsp := none }

/-- R150, R151: the reset step, whatever the state before, with a pending block and a word presented beside it lost. That the
reset is due in a queue, with a mark, that what the host presents later stands, and that the response list stands and the port is
cleared are the model's (log entries 2, 15 and 4). -/
def Obligations.ResetStepRestoresResetState : Prop :=
  ∀ (s : State) (lost : Option Word) (f : Bool) (rest : List Presented),
    configOk s.cfg = true → s.queue = { event := .reset lost, anFirst := f } :: rest → (s.hv && f) = false →
      ∃ t, step s = .next t
        ∧ t.en = false ∧ t.s1 = Lanes.const 0#32 ∧ t.s2 = Lanes.const 0#32 ∧ t.cnt = 0 ∧ t.hv = false
        ∧ t.he = Lanes.const 0#32 ∧ t.y = Lanes.const 0 ∧ t.c17 = 0 ∧ t.det = false ∧ t.s17 = 0 ∧ t.lng = false
        ∧ t.sym = 0#4 ∧ t.h = { h0 := 0#4, h1 := 0#4, h2 := 0#4 } ∧ t.sinceValid = 0
        ∧ t.sincePush = s.cfg.debounce ∧ t.seqMatch = false ∧ t.anacnt = 0#32 ∧ t.ovr = false ∧ t.err = false
        ∧ t.ecause = 0#4 ∧ t.cfg = s.cfg ∧ t.queue = rest ∧ t.responses = s.responses ∧ t.rsp = none
        ∧ det1750Out t = false ∧ det1750LongOut t = false ∧ dtmfMatchOut t = false

/-- R39 to R46, R49: what every register reads after reset, DTMFT reading `DEBOUNCE << 16`. -/
def Obligations.RegistersReadTheirResetValues : Prop :=
  ∀ (c : Config) (idx : BitVec 4), configOk c = true →
    readReg idx (State.resetOf c) =
      if idx = 6#4 ∨ idx = 7#4 ∨ idx = 13#4 ∨ idx = 14#4 ∨ idx = 15#4 then none
      else if idx = 4#4 then some (BitVec.ofNat 32 c.debounce <<< 16)
      else some 0#32

/-- R132, R124: no recorded event, no command and no analysis stops the block: with a configuration that has a meaning every
step answers a next state. Which configurations have one is R9 and the model's own bounds (log entry 7). -/
def Obligations.NoStepStopsTheBlock : Prop :=
  ∀ s : State, configOk s.cfg = true → ∃ t, step s = .next t

/-- R9, 93 I13: a configuration that fails is refused. The check is R9 and the model's own bounds of R6's parameters, and that `step`
makes the refusal is the model's choice (log entry 7). -/
def Obligations.FailingConfigurationRefused : Prop :=
  ∀ s : State, configOk s.cfg = false → step s = .refused .configRefused

/-- R9, with the ranges of R7 and R8 and the coefficient range of 93 I3, in the rationals; and the bounds within which R6's
parameters may be given other values than the source's, which are the model's (log entry 7). -/
def Obligations.ConfigurationConstraints : Prop :=
  ∀ c : Config, configOk c = true ↔
    (1 ≤ c.nch ∧ c.nch ≤ 5 ∧ c.ndtmf ≤ 4 ∧ c.ndtmf ≤ c.nch)
    ∧ (1 ≤ c.nBlock ∧ c.nBlock ≤ 65536) ∧ c.wHist + c.wNew ≤ 2 ^ c.wShift
    ∧ (0 < c.fs.den ∧ (0 : ℚ) < (c.fs.num : ℚ) / c.fs.den)
    ∧ (∀ i, 0 < (c.f.get i).den ∧ (0 : ℚ) < ((c.f.get i).num : ℚ) / (c.f.get i).den
        ∧ ((c.f.get i).num : ℚ) / (c.f.get i).den < ((c.fs.num : ℚ) / c.fs.den) / 2)
    ∧ ((∃ k : Fin 4, c.rowMask.getLsbD k = true) ∧ ∃ k : Fin 4, c.rowMask.getLsbD k = false)
    ∧ (∀ p ∈ c.validCodes, (∃! k : Fin 4, p.getLsbD k = true ∧ c.rowMask.getLsbD k = true)
        ∧ ∃! k : Fin 4, p.getLsbD k = true ∧ c.rowMask.getLsbD k = false)
    ∧ c.validCodes ≠ []
    ∧ (c.seq.h0 ∈ c.validCodes ∧ c.seq.h1 ∈ c.validCodes ∧ c.seq.h2 ∈ c.validCodes)
    ∧ (1 ≤ c.normScale ∧ c.normScale ≤ 2 ^ 24) ∧ (1 ≤ c.n1750 ∧ c.n1750 ≤ 255)
    ∧ (1 ≤ c.noneTimeout ∧ c.noneTimeout ≤ 65535) ∧ (1 ≤ c.debounce ∧ c.debounce ≤ 65535)
    ∧ (1 ≤ sustainBlocks c ∧ sustainBlocks c ≤ 65535)
    ∧ (-(c.normScale : Int) ≤ c.threshDtmf ∧ c.threshDtmf < c.normScale)
    ∧ (-(c.normScale : Int) ≤ c.thresh1750 ∧ c.thresh1750 < c.normScale)
    ∧ ∀ (i : Fin 5) (w : F32), c.coeffGiven.get i = some w →
        F32.isFinite w = true ∧ (F32.scaled w).natAbs ≤ 2 * 2 ^ 149

/-- R20: no step changes the configuration. -/
def Obligations.EveryStepKeepsConfiguration : Prop :=
  ∀ s t : State, step s = .next t → t.cfg = s.cfg

/-- R8: SUSTAIN_BLOCKS is the ceiling of `SUSTAIN_S * FS / N_BLOCK` over the rationals, in its range; with the source's
SUSTAIN_S and N_BLOCK it is 50 at 8000 Hz and 44 at 7000 Hz. -/
def Obligations.SustainBlocksIsTheCeiling : Prop :=
  ∀ c : Config, configOk c = true →
    (sustainBlocks c : ℤ) = ⌈(c.sustainS : ℚ) * ((c.fs.num : ℚ) / c.fs.den) / (c.nBlock : ℚ)⌉
      ∧ 1 ≤ sustainBlocks c ∧ sustainBlocks c ≤ 65535
      ∧ (c.sustainS = 5 → c.nBlock = 800 →
          ((c.fs.num : ℚ) / c.fs.den = 8000 → sustainBlocks c = 50)
            ∧ ((c.fs.num : ℚ) / c.fs.den = 7000 → sustainBlocks c = 44))

/-- R57, R58, R114: a command changes nothing that AN owns, and never touches the energies of a full slot or empties it. -/
def Obligations.CommandStepsKeepAnalysisState : Prop :=
  ∀ (s t : State) (w : Word), turn s = .command w → step s = .next t →
    SameAnalysis s t ∧ (s.hv = true → t.hv = true ∧ t.he = s.he)

/-- R47: the outputs equal their state bits, and change only in an AN step or at a reset. -/
def Obligations.OutputsChangeOnlyInAnalysisOrReset : Prop :=
  ∀ s t : State, step s = .next t →
    (det1750Out t = t.det ∧ det1750LongOut t = t.lng ∧ dtmfMatchOut t = t.seqMatch)
      ∧ (turn s ≠ .analyze → turn s ≠ .reset →
          det1750Out t = det1750Out s ∧ det1750LongOut t = det1750LongOut s ∧ dtmfMatchOut t = dtmfMatchOut s)

/-- R125: exactly the step of an RDREG delivers a response, exactly one, and the host receives it. That the port holds none after
an AN step, a reset or a quiescent step, and that the list of responses stands through a reset, is the model's (log entry 4). -/
def Obligations.ResponseExactlyForRdreg : Prop :=
  ∀ s t : State, step s = .next t →
    (t.rsp.isSome = true ↔ ∃ w idx, turn s = .command w ∧ decode w = .ok (.rdreg idx))
      ∧ t.responses = s.responses ++ t.rsp.toList

/-- R34: what sets the error record and what clears it, over all steps. -/
def Obligations.ErrorRecordChangesOnly : Prop :=
  ∀ s t : State, step s = .next t →
    (∀ w e, turn s = .command w → decode w = .error e → t.err = true ∧ t.ecause = 1#4)
      ∧ (∀ w idx, turn s = .command w → decode w = .ok (.rdreg idx) →
          idx ∈ [6#4, 7#4, 13#4, 14#4, 15#4] → t.err = true ∧ t.ecause = 2#4)
      ∧ (∀ w m, turn s = .command w → decode w = .ok (.clrst m) → m.getLsbD 0 = true → t.err = false ∧ t.ecause = 0#4)
      ∧ (turn s = .reset → t.err = false ∧ t.ecause = 0#4)
      ∧ ((t.err ≠ s.err ∨ t.ecause ≠ s.ecause) →
          turn s = .reset ∨ ∃ w, turn s = .command w ∧
            ((∃ e, decode w = .error e)
              ∨ (∃ idx, decode w = .ok (.rdreg idx) ∧ idx ∈ [6#4, 7#4, 13#4, 14#4, 15#4])
              ∨ ∃ m, decode w = .ok (.clrst m) ∧ m.getLsbD 0 = true))

/-- R33: what sets the overrun flag and what clears it, over all steps. -/
def Obligations.OverrunFlagChangesOnly : Prop :=
  ∀ s t : State, step s = .next t →
    (∀ w x, turn s = .command w → decode w = .ok (.sample x) → s.en = true → s.cnt + 1 = s.cfg.nBlock → s.hv = true →
        t.ovr = true)
      ∧ (s.ovr = false → t.ovr = true →
          ∃ w x, turn s = .command w ∧ decode w = .ok (.sample x) ∧ s.en = true ∧ s.cnt + 1 = s.cfg.nBlock ∧ s.hv = true)
      ∧ (s.ovr = true → t.ovr = false →
          turn s = .reset ∨ ∃ w m, turn s = .command w ∧ decode w = .ok (.clrst m) ∧ m.getLsbD 1 = true)
      ∧ (∀ w m, turn s = .command w → decode w = .ok (.clrst m) → m.getLsbD 1 = true → t.ovr = false)
      ∧ (turn s = .reset → t.ovr = false)

/-! ## SAMPLE -/

/-- R80 corner case (a): while the detector is disabled a sample has no effect at all. -/
def Obligations.DisabledSampleDiscarded : Prop :=
  ∀ (x : Int) (s : State), s.en = false → exec (.sample x) s = .next s

/-- R81, R13: an integer of magnitude up to 2^24, every sample among them, converts to the binary32 value equal to it. -/
def Obligations.SampleConversionExact : Prop :=
  ∀ x : Int, -(2 ^ 24) ≤ x → x ≤ 2 ^ 24 →
    F32.isFinite (sampleValue x) = true ∧ F32.scaled (sampleValue x) = x * 2 ^ 149

/-- R83: an accepted sample that completes no block: the recursion of every channel, one rounding per operation in the order
written, the counter (R84) while the detector is enabled (R80), and nothing else. With the source's NCH every lane carries a
channel; that one that carries none holds +0.0 is the model's choice (log entry 7). -/
def Obligations.SampleUpdatesEveryChannel : Prop :=
  ∀ (x : Int) (s : State), s.en = true → s.cnt + 1 ≠ s.cfg.nBlock →
    exec (.sample x) s = .next
      { s with
        s1 := Lanes.ofFn fun i =>
          if i.val < s.cfg.nch then
            F32.sub (F32.add (F32.ofInt x) (F32.mul (coeff s.cfg i) (s.s1.get i))) (s.s2.get i)
          else 0#32
        s2 := s.s1
        cnt := s.cnt + 1 }

/-- R85, R86, R87: the sample that completes a block: the energies from the taps after it go into a free slot, or set the
overrun flag where the slot is full; the taps and the counter restart. That a lane that carries no channel
holds +0.0 is the model's choice (log entry 7). -/
def Obligations.SampleCompletesBlock : Prop :=
  ∀ (x : Int) (s : State) (n1 e : Lanes F32), s.en = true → s.cnt + 1 = s.cfg.nBlock →
    (∀ i : Fin 5, n1.get i = F32.sub (F32.add (F32.ofInt x) (F32.mul (coeff s.cfg i) (s.s1.get i))) (s.s2.get i)) →
    (∀ i : Fin 5, e.get i =
      if i.val < s.cfg.nch then
        F32.sub (F32.add (F32.mul (n1.get i) (n1.get i)) (F32.mul (s.s1.get i) (s.s1.get i)))
          (F32.mul (F32.mul (coeff s.cfg i) (n1.get i)) (s.s1.get i))
      else 0#32) →
    (s.hv = false → exec (.sample x) s = .next
      { s with he := e, hv := true, s1 := Lanes.const 0#32, s2 := Lanes.const 0#32, cnt := 0 })
    ∧ (s.hv = true → exec (.sample x) s = .next
      { s with ovr := true, s1 := Lanes.const 0#32, s2 := Lanes.const 0#32, cnt := 0 })

/-- R89: no channel's taps or energy depend on another channel's: two states that agree in one channel agree in it after any
sample. -/
def Obligations.ChannelsAreIndependent : Prop :=
  ∀ (x : Int) (s u : State) (i : Fin 5), s.cfg = u.cfg → s.en = u.en → s.cnt = u.cnt → s.hv = u.hv →
    s.s1.get i = u.s1.get i → s.s2.get i = u.s2.get i → s.he.get i = u.he.get i →
      ∃ t v, exec (.sample x) s = .next t ∧ exec (.sample x) u = .next v
        ∧ t.s1.get i = v.s1.get i ∧ t.s2.get i = v.s2.get i ∧ t.he.get i = v.he.get i

/-! ## Binary32 and the coefficients -/

/-- R13: addition and subtraction of finite values round once, to nearest with ties to even, and the result is finite whenever
the exact sum is below the overflow threshold. -/
def Obligations.AddAndSubRoundToNearest : Prop :=
  ∀ a b : F32, F32.isFinite a = true → F32.isFinite b = true →
    (BelowOverflow (F32.scaled a + F32.scaled b) 1 → NearestTo (F32.add a b) (F32.scaled a + F32.scaled b) 1)
      ∧ (BelowOverflow (F32.scaled a - F32.scaled b) 1 → NearestTo (F32.sub a b) (F32.scaled a - F32.scaled b) 1)

/-- R13: multiplication of finite values rounds once, to nearest with ties to even, and the result is finite whenever the exact
product is below the overflow threshold. -/
def Obligations.MulRoundsToNearest : Prop :=
  ∀ a b : F32, F32.isFinite a = true → F32.isFinite b = true →
    BelowOverflow (F32.scaled a * F32.scaled b) (2 ^ 149) →
      NearestTo (F32.mul a b) (F32.scaled a * F32.scaled b) (2 ^ 149)

/-- R13: division of finite values by one that is not zero rounds once, to nearest with ties to even, and the result is finite
whenever the exact quotient is below the overflow threshold. -/
def Obligations.DivRoundsToNearest : Prop :=
  ∀ a b : F32, F32.isFinite a = true → F32.isFinite b = true → F32.scaled b ≠ 0 →
    BelowOverflow (F32.scaled a * 2 ^ 149 * (F32.scaled b).sign) (F32.scaled b).natAbs →
      NearestTo (F32.div a b) (F32.scaled a * 2 ^ 149 * (F32.scaled b).sign) (F32.scaled b).natAbs

/-- R13: `trunc_int` discards the fractional part of a finite value. -/
def Obligations.TruncIntDiscardsFraction : Prop :=
  ∀ q : F32, F32.isFinite q = true →
    (0 ≤ realOf q → F32.truncInt q = ⌊realOf q⌋) ∧ (realOf q < 0 → F32.truncInt q = ⌈realOf q⌉)

/-- R82: a derived coefficient is the binary32 value nearest to the real number `2 cos(2 pi F / FS)`. How the model finds it
without evaluating a cosine is its own (log entry 10). -/
def Obligations.DerivedCoefficientIsNearest : Prop :=
  ∀ (f fs : Ratio), 0 < fs.den → freqOk fs f = true →
    F32.isFinite (deriveCoeff f fs) = true ∧
      ∀ w : F32, F32.isFinite w = true →
        |realOf (deriveCoeff f fs) - 2 * Real.cos (2 * Real.pi * (((f.num : ℝ) / f.den) / ((fs.num : ℝ) / fs.den)))|
          ≤ |realOf w - 2 * Real.cos (2 * Real.pi * (((f.num : ℝ) / f.den) / ((fs.num : ℝ) / fs.den)))|

/-- R82, and section 1 of 95_test_vectors.md: the coefficients TC lists are the binary32 values nearest to
`2 cos(2 pi F[i] / FS)`. TC is the configuration the model's reset takes (log entry 1). -/
def Obligations.TestConfigurationCoefficientsAreNearest : Prop :=
  ∀ (i : Fin 5) (w : F32), F32.isFinite w = true →
    |realOf (coeff Config.tc i) - 2 * Real.cos (2 * Real.pi *
        ((((Config.tc.f.get i).num : ℝ) / (Config.tc.f.get i).den) / 7000))|
      ≤ |realOf w - 2 * Real.cos (2 * Real.pi *
        ((((Config.tc.f.get i).num : ℝ) / (Config.tc.f.get i).den) / 7000))|

/-! ## NOP, SETEN, RDREG, CLRST -/

/-- R115: NOP leaves every state element unchanged. -/
def Obligations.NopChangesNothing : Prop :=
  ∀ s : State, exec .nop s = .next s

/-- R116, R117: SETEN with the level `en` has does nothing; a change of level writes `en`, clears the taps and the counter, and
leaves everything else alone. -/
def Obligations.SetenActsOnChangeOnly : Prop :=
  ∀ (e : Bool) (s : State),
    (e = s.en → exec (.seten e) s = .next s)
      ∧ (e ≠ s.en → exec (.seten e) s = .next
          { s with en := e, s1 := Lanes.const 0#32, s2 := Lanes.const 0#32, cnt := 0 })

/-- R118, with the registers of R39 to R45: what RDREG of each index responds, and that it changes nothing else but the error
record of a reserved index. The fields hold their widths by the invariant. -/
def Obligations.RdregRespondsWithRegister : Prop :=
  ∀ (s : State) (ans : Word → State),
    configOk s.cfg = true → Inv s → (∀ v, ans v = { s with rsp := some v, responses := s.responses ++ [v] }) →
    exec (.rdreg 0#4) s = .next (ans ((BitVec.ofBool s.en).setWidth 32 ||| (BitVec.ofBool s.det).setWidth 32 <<< 1
        ||| (BitVec.ofBool s.lng).setWidth 32 <<< 2 ||| (BitVec.ofBool s.seqMatch).setWidth 32 <<< 3
        ||| (BitVec.ofBool s.hv).setWidth 32 <<< 4 ||| (BitVec.ofBool s.ovr).setWidth 32 <<< 5
        ||| (BitVec.ofBool s.err).setWidth 32 <<< 6 ||| s.sym.setWidth 32 <<< 8 ||| s.ecause.setWidth 32 <<< 12))
    ∧ exec (.rdreg 1#4) s = .next (ans (s.h.h2.setWidth 32 ||| s.h.h1.setWidth 32 <<< 4 ||| s.h.h0.setWidth 32 <<< 8))
    ∧ exec (.rdreg 2#4) s = .next (ans (BitVec.ofNat 32 s.cnt))
    ∧ exec (.rdreg 3#4) s = .next (ans (BitVec.ofNat 32 s.c17 ||| BitVec.ofNat 32 s.s17 <<< 8))
    ∧ exec (.rdreg 4#4) s = .next (ans (BitVec.ofNat 32 s.sinceValid ||| BitVec.ofNat 32 s.sincePush <<< 16))
    ∧ exec (.rdreg 5#4) s = .next (ans s.anacnt)
    ∧ exec (.rdreg 8#4) s = .next (ans (BitVec.ofInt 32 s.y.c0))
    ∧ exec (.rdreg 9#4) s = .next (ans (BitVec.ofInt 32 s.y.c1))
    ∧ exec (.rdreg 10#4) s = .next (ans (BitVec.ofInt 32 s.y.c2))
    ∧ exec (.rdreg 11#4) s = .next (ans (BitVec.ofInt 32 s.y.c3))
    ∧ exec (.rdreg 12#4) s = .next (ans (BitVec.ofInt 32 s.y.c4))
    ∧ ∀ idx ∈ [6#4, 7#4, 13#4, 14#4, 15#4],
        exec (.rdreg idx) s = .next { ans 0#32 with err := true, ecause := 2#4 }

/-- R119: RDREG of a reserved index responds 0, records error 2, and changes nothing else. -/
def Obligations.RdregReservedRecordsErrorTwo : Prop :=
  ∀ (s : State) (idx : BitVec 4), idx ∈ [6#4, 7#4, 13#4, 14#4, 15#4] →
    exec (.rdreg idx) s = .next
      { s with rsp := some 0#32, responses := s.responses ++ [0#32], err := true, ecause := 2#4 }

/-- R54: RDREG of a defined index leaves every state element alone and is idempotent: read again at once, it responds the
same word. -/
def Obligations.RdregIsIdempotent : Prop :=
  ∀ (s : State) (idx : BitVec 4), idx ∉ [6#4, 7#4, 13#4, 14#4, 15#4] →
    ∃ v, exec (.rdreg idx) s = .next { s with rsp := some v, responses := s.responses ++ [v] }
      ∧ exec (.rdreg idx) { s with rsp := some v, responses := s.responses ++ [v] }
        = .next { s with rsp := some v, responses := s.responses ++ [v] ++ [v] }

/-- R121: CLRST clears what its mask selects and nothing else; a mask of 0 has no effect. -/
def Obligations.ClrstClearsSelected : Prop :=
  ∀ (m : BitVec 2) (s : State),
    exec (.clrst m) s = .next
      { s with
        err := if m.getLsbD 0 then false else s.err
        ecause := if m.getLsbD 0 then 0#4 else s.ecause
        ovr := if m.getLsbD 1 then false else s.ovr }

/-! ## ANALYZE -/

/-- R112, R113: an analysis always completes; it empties the slot and counts itself, and leaves everything CMD owns, the
configuration and the host's side alone. -/
def Obligations.AnalysisCompletes : Prop :=
  ∀ s : State, ∃ t, execAnalyze s = .next t
    ∧ t.hv = false ∧ t.anacnt = BitVec.ofNat 32 (s.anacnt.toNat + 1)
    ∧ SameCommand s t ∧ t.cfg = s.cfg ∧ t.rsp = s.rsp ∧ t.responses = s.responses ∧ t.queue = s.queue

/-- R93: the range of the channels' finite energies is zero exactly when all of them are equal, and then every normalised value is
0; a block of exact silence is one such. That the range is over the NCH channels where they are fewer than R93's five, and that a
lane beyond them gets 0, is the model's choice (log entry 7). -/
def Obligations.EqualEnergiesNormalizeToZero : Prop :=
  ∀ (c : Config) (e : Lanes F32), (∀ i, F32.isFinite (e.get i) = true) →
    (F32.eq (rangeOf c e) 0#32 = true ↔
        ∀ i j : Fin 5, i.val < c.nch → j.val < c.nch → F32.scaled (e.get i) = F32.scaled (e.get j))
      ∧ ((∀ i j : Fin 5, i.val < c.nch → j.val < c.nch → F32.scaled (e.get i) = F32.scaled (e.get j)) →
          ∀ i, (normalize c e).get i = 0)

/-- R92, R94: the normalised values when the range is not zero, operation by operation, with the greatest and least energy named
by what they are. It is R92's own formula, over the five channels of R6. -/
def Obligations.NormalizeFormula : Prop :=
  ∀ (c : Config) (e : Lanes F32) (a b : Fin 5), c.nch = 5 → (∀ i, F32.isFinite (e.get i) = true) →
    (∀ i, F32.scaled (e.get i) ≤ F32.scaled (e.get a)) → (∀ i, F32.scaled (e.get b) ≤ F32.scaled (e.get i)) →
    F32.scaled (e.get b) < F32.scaled (e.get a) →
      ∀ i, (normalize c e).get i =
        max (-(c.normScale : Int)) (min (c.normScale : Int) (F32.truncInt
          (F32.div
            (F32.mul
              (F32.sub (e.get i)
                (F32.div (F32.add (F32.add (F32.add (F32.add e.c0 e.c1) e.c2) e.c3) e.c4) (F32.ofInt 5)))
              (F32.ofInt c.normScale))
            (F32.sub (e.get a) (e.get b)))))

/-- R94, R96: every output of NORMALIZE lies in [−NORM_SCALE, NORM_SCALE], whatever the energies; a lane beyond NCH gets 0 (the
model's choice, log entry 7). -/
def Obligations.NormalizeStaysInScale : Prop :=
  ∀ (c : Config) (e : Lanes F32) (i : Fin 5),
    -(c.normScale : Int) ≤ (normalize c e).get i ∧ (normalize c e).get i ≤ c.normScale

/-- R95: the envelope's integer filter, with the weights of the configuration, truncating toward zero: `tdiv(11 y + 5 n, 16)` with
the source's. A lane that carries no channel holds 0 (log entry 7). -/
def Obligations.EnvelopeFiltersEveryStrength : Prop :=
  ∀ s : State, configOk s.cfg = true →
    ∃ t, execAnalyze s = .next t
      ∧ (∀ i : Fin 5, t.y.get i =
          if i.val < s.cfg.nch then
            Int.tdiv (s.cfg.wHist * s.y.get i + s.cfg.wNew * (normalize s.cfg s.he).get i) (2 ^ s.cfg.wShift)
          else 0)
      ∧ (s.cfg.nch = 5 → s.cfg.wHist = 11 → s.cfg.wNew = 5 → s.cfg.wShift = 4 →
          ∀ i, t.y.get i = Int.tdiv (11 * s.y.get i + 5 * (normalize s.cfg s.he).get i) 16)

/-- R95: under silence (n = 0) a strength other than 0 gets smaller in magnitude, so it decays to exactly 0 and stays there, with
any weight of the old value below the whole (11 of 16 in the source). -/
def Obligations.StrengthDecaysToZero : Prop :=
  ∀ c : Config, c.wHist < 2 ^ c.wShift →
    (∀ y : Int, y ≠ 0 → (smooth c y 0).natAbs < y.natAbs)
      ∧ ∀ y : Int, ∃ k, ∀ n, k ≤ n → (fun v => smooth c v 0)^[n] y = 0

/-- R98, R99, R100: the up/down counter, presence with its hysteresis, and sustained presence, from the strength after smoothing. -/
def Obligations.PresenceDecisionHasHysteresis : Prop :=
  ∀ s : State, configOk s.cfg = true →
    ∃ t, execAnalyze s = .next t
      ∧ t.c17 = (if s.cfg.thresh1750 < t.y.c4 then min (s.c17 + 1) s.cfg.n1750 else s.c17 - 1)
      ∧ t.det = (if t.c17 = s.cfg.n1750 then true else if t.c17 = 0 then false else s.det)
      ∧ t.s17 = (if s.det = true ∧ t.det = true then min (s.s17 + 1) (sustainBlocks s.cfg) else 0)
      ∧ (t.lng = true ↔ t.s17 = sustainBlocks s.cfg)
      ∧ (s.cfg.n1750 = 1 → s.c17 ≤ 1 → t.det = decide (s.cfg.thresh1750 < t.y.c4))

/-- R103, R104: the tone pattern of the NDTMF channels' strengths after smoothing (four in the source), and the symbol it decodes
to. That the pattern bits from NDTMF on are 0 is the model's choice (log entry 7): R103 sums over channels 0 to 3. -/
def Obligations.SymbolIsTheExactPattern : Prop :=
  ∀ s : State, ∃ t p, execAnalyze s = .next t
    ∧ p.getLsbD 0 = decide (0 < s.cfg.ndtmf ∧ s.cfg.threshDtmf < t.y.c0)
    ∧ p.getLsbD 1 = decide (1 < s.cfg.ndtmf ∧ s.cfg.threshDtmf < t.y.c1)
    ∧ p.getLsbD 2 = decide (2 < s.cfg.ndtmf ∧ s.cfg.threshDtmf < t.y.c2)
    ∧ p.getLsbD 3 = decide (3 < s.cfg.ndtmf ∧ s.cfg.threshDtmf < t.y.c3)
    ∧ (p ∈ s.cfg.validCodes → t.sym = p) ∧ (p ∉ s.cfg.validCodes → t.sym = 0#4)

/-- R107, R108, R109, with the debounce count of R106: the timers, the candidate, and the push on change. -/
def Obligations.HistoryPushesOnDebouncedChange : Prop :=
  ∀ (s : State) (valid pushed : Nat) (cand : Option Symbol),
    ∃ t, execAnalyze s = .next t
      ∧ (valid = (if t.sym = 0#4 then min (s.sinceValid + 1) s.cfg.noneTimeout else 0) →
          pushed = min (s.sincePush + 1) s.cfg.debounce →
          cand = (if t.sym ≠ 0#4 then some t.sym else if valid = s.cfg.noneTimeout then some 0#4 else none) →
          t.sinceValid = valid
            ∧ (∀ p, cand = some p → p ≠ s.h.h2 → pushed = s.cfg.debounce →
                t.h = { h0 := s.h.h1, h1 := s.h.h2, h2 := p } ∧ t.sincePush = 0)
            ∧ ((cand = none ∨ cand = some s.h.h2 ∨ pushed ≠ s.cfg.debounce) → t.h = s.h ∧ t.sincePush = pushed))

/-- R110: the match flag is the level "the history equals SEQ", recomputed at every analysis. -/
def Obligations.MatchFlagComparesHistory : Prop :=
  ∀ s : State, ∃ t, execAnalyze s = .next t
    ∧ (t.seqMatch = true ↔ t.h.h0 = s.cfg.seq.h0 ∧ t.h.h1 = s.cfg.seq.h1 ∧ t.h.h2 = s.cfg.seq.h2)

/-- R97: the order of the 1750 Hz decision and the DTMF decision is not observable. -/
def Obligations.DecisionOrderUnobservable : Prop :=
  ∀ s : State,
    matchSeq (maybePush (countTimers (decodeDtmf (decide1750 s))))
      = decide1750 (matchSeq (maybePush (countTimers (decodeDtmf s))))

/-! ## Invariants and runs -/

/-- R48 items 1 to 8, the recursion's taps (item 9 in the form a step keeps) and the counts of R164 hold in the reset state of
every configuration that has a meaning; the state the model resets to is one (log entry 1). That a lane beyond
NCH holds +0.0 is the model's choice (log entry 7). -/
def Obligations.InvariantAtReset : Prop :=
  (∀ c : Config, configOk c = true →
      Inv (State.resetOf c) ∧ RecursionInv (State.resetOf c) ∧ CountedInv 0 (State.resetOf c))
    ∧ Inv State.reset ∧ RecursionInv State.reset ∧ CountedInv 0 State.reset

/-- R48 items 1 to 8 are kept by every step, from every state that meets them. -/
def Obligations.InvariantKeptByEveryStep : Prop :=
  ∀ s t : State, Inv s → step s = .next t → Inv t

/-- R96: the analysis depends on NORMALIZE only through its output: any total function whose outputs lie in
[−NORM_SCALE, NORM_SCALE] keeps R48 items 1 to 8, and two that agree on the block's energies give the same analysis. -/
def Obligations.AnyBoundedNormalizeKeepsInvariant : Prop :=
  ∀ (norm other : Lanes F32 → Lanes Int) (s : State), configOk s.cfg = true → Inv s →
    (∀ i, -(s.cfg.normScale : Int) ≤ (norm s.he).get i ∧ (norm s.he).get i ≤ s.cfg.normScale) →
      Inv (analyzeWith norm s) ∧ (other s.he = norm s.he → analyzeWith other s = analyzeWith norm s)

/-- R48 item 9, R88, as an invariant of one step: from a state whose taps are what the recursion gives from +0.0 on `cnt` samples
of 16 bits, every step gives another such state, and every tap and energy in it is finite. R88's bound is for the source's
N_BLOCK of 800, and holds for any smaller one. That a lane beyond NCH holds +0.0 is the model's choice (log entry 7). -/
def Obligations.TapsStayRecursionOutputsAndFinite : Prop :=
  ∀ s t : State, s.cfg.nBlock ≤ 800 → CountInv s → RecursionInv s → step s = .next t →
    CountInv t ∧ RecursionInv t ∧ FiniteInv t

/-- R88, R48 item 9: in every state a run reaches, under any configuration with a meaning whose N_BLOCK is at most the source's 800,
and whatever the host presents, every tap and every energy is finite. -/
def Obligations.EveryRunStaysFinite : Prop :=
  ∀ s : State, s.cfg.nBlock ≤ 800 → Reachable s → FiniteInv s

/-- R48 item 8: a SEQ with two equal adjacent entries never matches. -/
def Obligations.RepeatedEntrySequenceNeverMatches : Prop :=
  ∀ s : State, configOk s.cfg = true → Inv s →
    (s.cfg.seq.h0 = s.cfg.seq.h1 ∨ s.cfg.seq.h1 = s.cfg.seq.h2) → s.seqMatch = false

/-- R164, as an invariant of one step: c17, det, s17, lng, the pushes into the history and match keep to the number of analyses
since the last reset. -/
def Obligations.AnalysisCountsKeptByEveryStep : Prop :=
  ∀ (n : Nat) (s t : State), CountedInv n s → step s = .next t → CountedInv (analysesAfterStep n s) t

/-- R164: how many analyses after a reset each output can first be 1; before the first analysis none is. -/
def Obligations.OutputsNeedEnoughAnalyses : Prop :=
  ∀ (n : Nat) (s : State), ReachableAfter n s →
    (det1750Out s = true → s.cfg.n1750 ≤ n)
      ∧ (det1750LongOut s = true → s.cfg.n1750 + sustainBlocks s.cfg ≤ n)
      ∧ (dtmfMatchOut s = true → 1 + 2 * s.cfg.debounce ≤ n)
      ∧ (n = 0 → det1750Out s = false ∧ det1750LongOut s = false ∧ dtmfMatchOut s = false)
end

