-- ==== Sys2Proof/Laws/Word.lean ====
section
/-! SUPPORT. The small lemmas of the five-lane record. -/

namespace Sys2Proof.Lanes

variable {α : Type}

@[simp] theorem get_ofFn (f : Fin 5 → α) (i : Fin 5) : (ofFn f).get i = f i := by
  fin_cases i <;> rfl

@[simp] theorem get_const (a : α) (i : Fin 5) : (const a).get i = a := by simp [const]

@[simp] theorem get_zero (l : Lanes α) : l.get 0 = l.c0 := rfl
@[simp] theorem get_one (l : Lanes α) : l.get 1 = l.c1 := rfl
@[simp] theorem get_two (l : Lanes α) : l.get 2 = l.c2 := rfl
@[simp] theorem get_three (l : Lanes α) : l.get 3 = l.c3 := rfl
@[simp] theorem get_four (l : Lanes α) : l.get 4 = l.c4 := rfl

/-- Two lane records are equal when they agree in every channel. -/
theorem ext_get {l m : Lanes α} (h : ∀ i, l.get i = m.get i) : l = m := by
  obtain ⟨a0, a1, a2, a3, a4⟩ := l
  obtain ⟨b0, b1, b2, b3, b4⟩ := m
  have e0 : a0 = b0 := h 0
  have e1 : a1 = b1 := h 1
  have e2 : a2 = b2 := h 2
  have e3 : a3 = b3 := h 3
  have e4 : a4 = b4 := h 4
  subst e0 e1 e2 e3 e4
  rfl

/-- A check over all lanes is a check of each. -/
theorem all_iff (p : α → Bool) (l : Lanes α) : l.all p = true ↔ ∀ i, p (l.get i) = true := by
  constructor
  · intro h i
    simp only [all, Bool.and_eq_true] at h
    obtain ⟨⟨⟨⟨h0, h1⟩, h2⟩, h3⟩, h4⟩ := h
    fin_cases i <;> assumption
  · intro h
    simp only [all, Bool.and_eq_true]
    exact ⟨⟨⟨⟨h 0, h 1⟩, h 2⟩, h 3⟩, h 4⟩

end Sys2Proof.Lanes
end

