-- ==== Sys2Proof/Laws/State.lean ====
section
/-! SUPPORT. One lemma per field per update of the state, so that no later proof unfolds a record update. -/

namespace Sys2Proof.Machine

@[simp] theorem recordError_en (code : BitVec 4) (s : State) : (recordError code s).en = s.en := rfl
@[simp] theorem recordError_s1 (code : BitVec 4) (s : State) : (recordError code s).s1 = s.s1 := rfl
@[simp] theorem recordError_s2 (code : BitVec 4) (s : State) : (recordError code s).s2 = s.s2 := rfl
@[simp] theorem recordError_cnt (code : BitVec 4) (s : State) : (recordError code s).cnt = s.cnt := rfl
@[simp] theorem recordError_hv (code : BitVec 4) (s : State) : (recordError code s).hv = s.hv := rfl
@[simp] theorem recordError_he (code : BitVec 4) (s : State) : (recordError code s).he = s.he := rfl
@[simp] theorem recordError_y (code : BitVec 4) (s : State) : (recordError code s).y = s.y := rfl
@[simp] theorem recordError_c17 (code : BitVec 4) (s : State) : (recordError code s).c17 = s.c17 := rfl
@[simp] theorem recordError_det (code : BitVec 4) (s : State) : (recordError code s).det = s.det := rfl
@[simp] theorem recordError_s17 (code : BitVec 4) (s : State) : (recordError code s).s17 = s.s17 := rfl
@[simp] theorem recordError_lng (code : BitVec 4) (s : State) : (recordError code s).lng = s.lng := rfl
@[simp] theorem recordError_sym (code : BitVec 4) (s : State) : (recordError code s).sym = s.sym := rfl
@[simp] theorem recordError_h (code : BitVec 4) (s : State) : (recordError code s).h = s.h := rfl
@[simp] theorem recordError_sinceValid (code : BitVec 4) (s : State) : (recordError code s).sinceValid = s.sinceValid := rfl
@[simp] theorem recordError_sincePush (code : BitVec 4) (s : State) : (recordError code s).sincePush = s.sincePush := rfl
@[simp] theorem recordError_seqMatch (code : BitVec 4) (s : State) : (recordError code s).seqMatch = s.seqMatch := rfl
@[simp] theorem recordError_anacnt (code : BitVec 4) (s : State) : (recordError code s).anacnt = s.anacnt := rfl
@[simp] theorem recordError_ovr (code : BitVec 4) (s : State) : (recordError code s).ovr = s.ovr := rfl
@[simp] theorem recordError_err (code : BitVec 4) (s : State) : (recordError code s).err = true := rfl
@[simp] theorem recordError_ecause (code : BitVec 4) (s : State) : (recordError code s).ecause = code := rfl
@[simp] theorem recordError_cfg (code : BitVec 4) (s : State) : (recordError code s).cfg = s.cfg := rfl
@[simp] theorem recordError_rsp (code : BitVec 4) (s : State) : (recordError code s).rsp = s.rsp := rfl
@[simp] theorem recordError_responses (code : BitVec 4) (s : State) : (recordError code s).responses = s.responses := rfl
@[simp] theorem recordError_queue (code : BitVec 4) (s : State) : (recordError code s).queue = s.queue := rfl

@[simp] theorem respond_en (v : Word) (s : State) : (respond v s).en = s.en := rfl
@[simp] theorem respond_s1 (v : Word) (s : State) : (respond v s).s1 = s.s1 := rfl
@[simp] theorem respond_s2 (v : Word) (s : State) : (respond v s).s2 = s.s2 := rfl
@[simp] theorem respond_cnt (v : Word) (s : State) : (respond v s).cnt = s.cnt := rfl
@[simp] theorem respond_hv (v : Word) (s : State) : (respond v s).hv = s.hv := rfl
@[simp] theorem respond_he (v : Word) (s : State) : (respond v s).he = s.he := rfl
@[simp] theorem respond_y (v : Word) (s : State) : (respond v s).y = s.y := rfl
@[simp] theorem respond_c17 (v : Word) (s : State) : (respond v s).c17 = s.c17 := rfl
@[simp] theorem respond_det (v : Word) (s : State) : (respond v s).det = s.det := rfl
@[simp] theorem respond_s17 (v : Word) (s : State) : (respond v s).s17 = s.s17 := rfl
@[simp] theorem respond_lng (v : Word) (s : State) : (respond v s).lng = s.lng := rfl
@[simp] theorem respond_sym (v : Word) (s : State) : (respond v s).sym = s.sym := rfl
@[simp] theorem respond_h (v : Word) (s : State) : (respond v s).h = s.h := rfl
@[simp] theorem respond_sinceValid (v : Word) (s : State) : (respond v s).sinceValid = s.sinceValid := rfl
@[simp] theorem respond_sincePush (v : Word) (s : State) : (respond v s).sincePush = s.sincePush := rfl
@[simp] theorem respond_seqMatch (v : Word) (s : State) : (respond v s).seqMatch = s.seqMatch := rfl
@[simp] theorem respond_anacnt (v : Word) (s : State) : (respond v s).anacnt = s.anacnt := rfl
@[simp] theorem respond_ovr (v : Word) (s : State) : (respond v s).ovr = s.ovr := rfl
@[simp] theorem respond_err (v : Word) (s : State) : (respond v s).err = s.err := rfl
@[simp] theorem respond_ecause (v : Word) (s : State) : (respond v s).ecause = s.ecause := rfl
@[simp] theorem respond_cfg (v : Word) (s : State) : (respond v s).cfg = s.cfg := rfl
@[simp] theorem respond_rsp (v : Word) (s : State) : (respond v s).rsp = some v := rfl
@[simp] theorem respond_responses (v : Word) (s : State) : (respond v s).responses = s.responses ++ [v] := rfl
@[simp] theorem respond_queue (v : Word) (s : State) : (respond v s).queue = s.queue := rfl

@[simp] theorem restartBlock_en (s : State) : (restartBlock s).en = s.en := rfl
@[simp] theorem restartBlock_s1 (s : State) : (restartBlock s).s1 = Lanes.const F32.zero := rfl
@[simp] theorem restartBlock_s2 (s : State) : (restartBlock s).s2 = Lanes.const F32.zero := rfl
@[simp] theorem restartBlock_cnt (s : State) : (restartBlock s).cnt = 0 := rfl
@[simp] theorem restartBlock_hv (s : State) : (restartBlock s).hv = s.hv := rfl
@[simp] theorem restartBlock_he (s : State) : (restartBlock s).he = s.he := rfl
@[simp] theorem restartBlock_y (s : State) : (restartBlock s).y = s.y := rfl
@[simp] theorem restartBlock_c17 (s : State) : (restartBlock s).c17 = s.c17 := rfl
@[simp] theorem restartBlock_det (s : State) : (restartBlock s).det = s.det := rfl
@[simp] theorem restartBlock_s17 (s : State) : (restartBlock s).s17 = s.s17 := rfl
@[simp] theorem restartBlock_lng (s : State) : (restartBlock s).lng = s.lng := rfl
@[simp] theorem restartBlock_sym (s : State) : (restartBlock s).sym = s.sym := rfl
@[simp] theorem restartBlock_h (s : State) : (restartBlock s).h = s.h := rfl
@[simp] theorem restartBlock_sinceValid (s : State) : (restartBlock s).sinceValid = s.sinceValid := rfl
@[simp] theorem restartBlock_sincePush (s : State) : (restartBlock s).sincePush = s.sincePush := rfl
@[simp] theorem restartBlock_seqMatch (s : State) : (restartBlock s).seqMatch = s.seqMatch := rfl
@[simp] theorem restartBlock_anacnt (s : State) : (restartBlock s).anacnt = s.anacnt := rfl
@[simp] theorem restartBlock_ovr (s : State) : (restartBlock s).ovr = s.ovr := rfl
@[simp] theorem restartBlock_err (s : State) : (restartBlock s).err = s.err := rfl
@[simp] theorem restartBlock_ecause (s : State) : (restartBlock s).ecause = s.ecause := rfl
@[simp] theorem restartBlock_cfg (s : State) : (restartBlock s).cfg = s.cfg := rfl
@[simp] theorem restartBlock_rsp (s : State) : (restartBlock s).rsp = s.rsp := rfl
@[simp] theorem restartBlock_responses (s : State) : (restartBlock s).responses = s.responses := rfl
@[simp] theorem restartBlock_queue (s : State) : (restartBlock s).queue = s.queue := rfl

@[simp] theorem silent_en (s : State) : (silent s).en = s.en := rfl
@[simp] theorem silent_s1 (s : State) : (silent s).s1 = s.s1 := rfl
@[simp] theorem silent_s2 (s : State) : (silent s).s2 = s.s2 := rfl
@[simp] theorem silent_cnt (s : State) : (silent s).cnt = s.cnt := rfl
@[simp] theorem silent_hv (s : State) : (silent s).hv = s.hv := rfl
@[simp] theorem silent_he (s : State) : (silent s).he = s.he := rfl
@[simp] theorem silent_y (s : State) : (silent s).y = s.y := rfl
@[simp] theorem silent_c17 (s : State) : (silent s).c17 = s.c17 := rfl
@[simp] theorem silent_det (s : State) : (silent s).det = s.det := rfl
@[simp] theorem silent_s17 (s : State) : (silent s).s17 = s.s17 := rfl
@[simp] theorem silent_lng (s : State) : (silent s).lng = s.lng := rfl
@[simp] theorem silent_sym (s : State) : (silent s).sym = s.sym := rfl
@[simp] theorem silent_h (s : State) : (silent s).h = s.h := rfl
@[simp] theorem silent_sinceValid (s : State) : (silent s).sinceValid = s.sinceValid := rfl
@[simp] theorem silent_sincePush (s : State) : (silent s).sincePush = s.sincePush := rfl
@[simp] theorem silent_seqMatch (s : State) : (silent s).seqMatch = s.seqMatch := rfl
@[simp] theorem silent_anacnt (s : State) : (silent s).anacnt = s.anacnt := rfl
@[simp] theorem silent_ovr (s : State) : (silent s).ovr = s.ovr := rfl
@[simp] theorem silent_err (s : State) : (silent s).err = s.err := rfl
@[simp] theorem silent_ecause (s : State) : (silent s).ecause = s.ecause := rfl
@[simp] theorem silent_cfg (s : State) : (silent s).cfg = s.cfg := rfl
@[simp] theorem silent_rsp (s : State) : (silent s).rsp = none := rfl
@[simp] theorem silent_responses (s : State) : (silent s).responses = s.responses := rfl
@[simp] theorem silent_queue (s : State) : (silent s).queue = s.queue := rfl

@[simp] theorem consume_en (s : State) : (consume s).en = s.en := rfl
@[simp] theorem consume_s1 (s : State) : (consume s).s1 = s.s1 := rfl
@[simp] theorem consume_s2 (s : State) : (consume s).s2 = s.s2 := rfl
@[simp] theorem consume_cnt (s : State) : (consume s).cnt = s.cnt := rfl
@[simp] theorem consume_hv (s : State) : (consume s).hv = s.hv := rfl
@[simp] theorem consume_he (s : State) : (consume s).he = s.he := rfl
@[simp] theorem consume_y (s : State) : (consume s).y = s.y := rfl
@[simp] theorem consume_c17 (s : State) : (consume s).c17 = s.c17 := rfl
@[simp] theorem consume_det (s : State) : (consume s).det = s.det := rfl
@[simp] theorem consume_s17 (s : State) : (consume s).s17 = s.s17 := rfl
@[simp] theorem consume_lng (s : State) : (consume s).lng = s.lng := rfl
@[simp] theorem consume_sym (s : State) : (consume s).sym = s.sym := rfl
@[simp] theorem consume_h (s : State) : (consume s).h = s.h := rfl
@[simp] theorem consume_sinceValid (s : State) : (consume s).sinceValid = s.sinceValid := rfl
@[simp] theorem consume_sincePush (s : State) : (consume s).sincePush = s.sincePush := rfl
@[simp] theorem consume_seqMatch (s : State) : (consume s).seqMatch = s.seqMatch := rfl
@[simp] theorem consume_anacnt (s : State) : (consume s).anacnt = s.anacnt := rfl
@[simp] theorem consume_ovr (s : State) : (consume s).ovr = s.ovr := rfl
@[simp] theorem consume_err (s : State) : (consume s).err = s.err := rfl
@[simp] theorem consume_ecause (s : State) : (consume s).ecause = s.ecause := rfl
@[simp] theorem consume_cfg (s : State) : (consume s).cfg = s.cfg := rfl
@[simp] theorem consume_rsp (s : State) : (consume s).rsp = none := rfl
@[simp] theorem consume_responses (s : State) : (consume s).responses = s.responses := rfl
@[simp] theorem consume_queue (s : State) : (consume s).queue = s.queue.tail := rfl

@[simp] theorem present_en (ps : List Presented) (s : State) : (present ps s).en = s.en := rfl
@[simp] theorem present_s1 (ps : List Presented) (s : State) : (present ps s).s1 = s.s1 := rfl
@[simp] theorem present_s2 (ps : List Presented) (s : State) : (present ps s).s2 = s.s2 := rfl
@[simp] theorem present_cnt (ps : List Presented) (s : State) : (present ps s).cnt = s.cnt := rfl
@[simp] theorem present_hv (ps : List Presented) (s : State) : (present ps s).hv = s.hv := rfl
@[simp] theorem present_he (ps : List Presented) (s : State) : (present ps s).he = s.he := rfl
@[simp] theorem present_y (ps : List Presented) (s : State) : (present ps s).y = s.y := rfl
@[simp] theorem present_c17 (ps : List Presented) (s : State) : (present ps s).c17 = s.c17 := rfl
@[simp] theorem present_det (ps : List Presented) (s : State) : (present ps s).det = s.det := rfl
@[simp] theorem present_s17 (ps : List Presented) (s : State) : (present ps s).s17 = s.s17 := rfl
@[simp] theorem present_lng (ps : List Presented) (s : State) : (present ps s).lng = s.lng := rfl
@[simp] theorem present_sym (ps : List Presented) (s : State) : (present ps s).sym = s.sym := rfl
@[simp] theorem present_h (ps : List Presented) (s : State) : (present ps s).h = s.h := rfl
@[simp] theorem present_sinceValid (ps : List Presented) (s : State) : (present ps s).sinceValid = s.sinceValid := rfl
@[simp] theorem present_sincePush (ps : List Presented) (s : State) : (present ps s).sincePush = s.sincePush := rfl
@[simp] theorem present_seqMatch (ps : List Presented) (s : State) : (present ps s).seqMatch = s.seqMatch := rfl
@[simp] theorem present_anacnt (ps : List Presented) (s : State) : (present ps s).anacnt = s.anacnt := rfl
@[simp] theorem present_ovr (ps : List Presented) (s : State) : (present ps s).ovr = s.ovr := rfl
@[simp] theorem present_err (ps : List Presented) (s : State) : (present ps s).err = s.err := rfl
@[simp] theorem present_ecause (ps : List Presented) (s : State) : (present ps s).ecause = s.ecause := rfl
@[simp] theorem present_cfg (ps : List Presented) (s : State) : (present ps s).cfg = s.cfg := rfl
@[simp] theorem present_rsp (ps : List Presented) (s : State) : (present ps s).rsp = s.rsp := rfl
@[simp] theorem present_responses (ps : List Presented) (s : State) : (present ps s).responses = s.responses := rfl
@[simp] theorem present_queue (ps : List Presented) (s : State) : (present ps s).queue = s.queue ++ ps := rfl

@[simp] theorem presentNext_en (w : Word) (s : State) : (presentNext w s).en = s.en := rfl
@[simp] theorem presentNext_s1 (w : Word) (s : State) : (presentNext w s).s1 = s.s1 := rfl
@[simp] theorem presentNext_s2 (w : Word) (s : State) : (presentNext w s).s2 = s.s2 := rfl
@[simp] theorem presentNext_cnt (w : Word) (s : State) : (presentNext w s).cnt = s.cnt := rfl
@[simp] theorem presentNext_hv (w : Word) (s : State) : (presentNext w s).hv = s.hv := rfl
@[simp] theorem presentNext_he (w : Word) (s : State) : (presentNext w s).he = s.he := rfl
@[simp] theorem presentNext_y (w : Word) (s : State) : (presentNext w s).y = s.y := rfl
@[simp] theorem presentNext_c17 (w : Word) (s : State) : (presentNext w s).c17 = s.c17 := rfl
@[simp] theorem presentNext_det (w : Word) (s : State) : (presentNext w s).det = s.det := rfl
@[simp] theorem presentNext_s17 (w : Word) (s : State) : (presentNext w s).s17 = s.s17 := rfl
@[simp] theorem presentNext_lng (w : Word) (s : State) : (presentNext w s).lng = s.lng := rfl
@[simp] theorem presentNext_sym (w : Word) (s : State) : (presentNext w s).sym = s.sym := rfl
@[simp] theorem presentNext_h (w : Word) (s : State) : (presentNext w s).h = s.h := rfl
@[simp] theorem presentNext_sinceValid (w : Word) (s : State) : (presentNext w s).sinceValid = s.sinceValid := rfl
@[simp] theorem presentNext_sincePush (w : Word) (s : State) : (presentNext w s).sincePush = s.sincePush := rfl
@[simp] theorem presentNext_seqMatch (w : Word) (s : State) : (presentNext w s).seqMatch = s.seqMatch := rfl
@[simp] theorem presentNext_anacnt (w : Word) (s : State) : (presentNext w s).anacnt = s.anacnt := rfl
@[simp] theorem presentNext_ovr (w : Word) (s : State) : (presentNext w s).ovr = s.ovr := rfl
@[simp] theorem presentNext_err (w : Word) (s : State) : (presentNext w s).err = s.err := rfl
@[simp] theorem presentNext_ecause (w : Word) (s : State) : (presentNext w s).ecause = s.ecause := rfl
@[simp] theorem presentNext_cfg (w : Word) (s : State) : (presentNext w s).cfg = s.cfg := rfl
@[simp] theorem presentNext_rsp (w : Word) (s : State) : (presentNext w s).rsp = s.rsp := rfl
@[simp] theorem presentNext_responses (w : Word) (s : State) : (presentNext w s).responses = s.responses := rfl
@[simp] theorem presentNext_queue (w : Word) (s : State) : (presentNext w s).queue = { event := .word w, anFirst := false } :: s.queue := rfl

@[simp] theorem updateTaps_en (x : F32) (s : State) : (updateTaps x s).en = s.en := rfl
@[simp] theorem updateTaps_s1 (x : F32) (s : State) : (updateTaps x s).s1 = perChannel s.cfg F32.zero fun i => channelUpdate (coeff s.cfg i) (s.s1.get i) (s.s2.get i) x := rfl
@[simp] theorem updateTaps_s2 (x : F32) (s : State) : (updateTaps x s).s2 = s.s1 := rfl
@[simp] theorem updateTaps_cnt (x : F32) (s : State) : (updateTaps x s).cnt = s.cnt := rfl
@[simp] theorem updateTaps_hv (x : F32) (s : State) : (updateTaps x s).hv = s.hv := rfl
@[simp] theorem updateTaps_he (x : F32) (s : State) : (updateTaps x s).he = s.he := rfl
@[simp] theorem updateTaps_y (x : F32) (s : State) : (updateTaps x s).y = s.y := rfl
@[simp] theorem updateTaps_c17 (x : F32) (s : State) : (updateTaps x s).c17 = s.c17 := rfl
@[simp] theorem updateTaps_det (x : F32) (s : State) : (updateTaps x s).det = s.det := rfl
@[simp] theorem updateTaps_s17 (x : F32) (s : State) : (updateTaps x s).s17 = s.s17 := rfl
@[simp] theorem updateTaps_lng (x : F32) (s : State) : (updateTaps x s).lng = s.lng := rfl
@[simp] theorem updateTaps_sym (x : F32) (s : State) : (updateTaps x s).sym = s.sym := rfl
@[simp] theorem updateTaps_h (x : F32) (s : State) : (updateTaps x s).h = s.h := rfl
@[simp] theorem updateTaps_sinceValid (x : F32) (s : State) : (updateTaps x s).sinceValid = s.sinceValid := rfl
@[simp] theorem updateTaps_sincePush (x : F32) (s : State) : (updateTaps x s).sincePush = s.sincePush := rfl
@[simp] theorem updateTaps_seqMatch (x : F32) (s : State) : (updateTaps x s).seqMatch = s.seqMatch := rfl
@[simp] theorem updateTaps_anacnt (x : F32) (s : State) : (updateTaps x s).anacnt = s.anacnt := rfl
@[simp] theorem updateTaps_ovr (x : F32) (s : State) : (updateTaps x s).ovr = s.ovr := rfl
@[simp] theorem updateTaps_err (x : F32) (s : State) : (updateTaps x s).err = s.err := rfl
@[simp] theorem updateTaps_ecause (x : F32) (s : State) : (updateTaps x s).ecause = s.ecause := rfl
@[simp] theorem updateTaps_cfg (x : F32) (s : State) : (updateTaps x s).cfg = s.cfg := rfl
@[simp] theorem updateTaps_rsp (x : F32) (s : State) : (updateTaps x s).rsp = s.rsp := rfl
@[simp] theorem updateTaps_responses (x : F32) (s : State) : (updateTaps x s).responses = s.responses := rfl
@[simp] theorem updateTaps_queue (x : F32) (s : State) : (updateTaps x s).queue = s.queue := rfl

@[simp] theorem countSample_en (s : State) : (countSample s).en = s.en := rfl
@[simp] theorem countSample_s1 (s : State) : (countSample s).s1 = s.s1 := rfl
@[simp] theorem countSample_s2 (s : State) : (countSample s).s2 = s.s2 := rfl
@[simp] theorem countSample_cnt (s : State) : (countSample s).cnt = s.cnt + 1 := rfl
@[simp] theorem countSample_hv (s : State) : (countSample s).hv = s.hv := rfl
@[simp] theorem countSample_he (s : State) : (countSample s).he = s.he := rfl
@[simp] theorem countSample_y (s : State) : (countSample s).y = s.y := rfl
@[simp] theorem countSample_c17 (s : State) : (countSample s).c17 = s.c17 := rfl
@[simp] theorem countSample_det (s : State) : (countSample s).det = s.det := rfl
@[simp] theorem countSample_s17 (s : State) : (countSample s).s17 = s.s17 := rfl
@[simp] theorem countSample_lng (s : State) : (countSample s).lng = s.lng := rfl
@[simp] theorem countSample_sym (s : State) : (countSample s).sym = s.sym := rfl
@[simp] theorem countSample_h (s : State) : (countSample s).h = s.h := rfl
@[simp] theorem countSample_sinceValid (s : State) : (countSample s).sinceValid = s.sinceValid := rfl
@[simp] theorem countSample_sincePush (s : State) : (countSample s).sincePush = s.sincePush := rfl
@[simp] theorem countSample_seqMatch (s : State) : (countSample s).seqMatch = s.seqMatch := rfl
@[simp] theorem countSample_anacnt (s : State) : (countSample s).anacnt = s.anacnt := rfl
@[simp] theorem countSample_ovr (s : State) : (countSample s).ovr = s.ovr := rfl
@[simp] theorem countSample_err (s : State) : (countSample s).err = s.err := rfl
@[simp] theorem countSample_ecause (s : State) : (countSample s).ecause = s.ecause := rfl
@[simp] theorem countSample_cfg (s : State) : (countSample s).cfg = s.cfg := rfl
@[simp] theorem countSample_rsp (s : State) : (countSample s).rsp = s.rsp := rfl
@[simp] theorem countSample_responses (s : State) : (countSample s).responses = s.responses := rfl
@[simp] theorem countSample_queue (s : State) : (countSample s).queue = s.queue := rfl

@[simp] theorem handoff_en (e : Lanes F32) (s : State) : (handoff e s).en = s.en := by
  simp only [handoff]
  split <;> rfl
@[simp] theorem handoff_s1 (e : Lanes F32) (s : State) : (handoff e s).s1 = s.s1 := by
  simp only [handoff]
  split <;> rfl
@[simp] theorem handoff_s2 (e : Lanes F32) (s : State) : (handoff e s).s2 = s.s2 := by
  simp only [handoff]
  split <;> rfl
@[simp] theorem handoff_cnt (e : Lanes F32) (s : State) : (handoff e s).cnt = s.cnt := by
  simp only [handoff]
  split <;> rfl
@[simp] theorem handoff_hv (e : Lanes F32) (s : State) : (handoff e s).hv = true := by
  simp only [handoff]
  split <;> simp [*]
@[simp] theorem handoff_he (e : Lanes F32) (s : State) : (handoff e s).he = if s.hv then s.he else e := by
  simp only [handoff]
  split <;> simp [*]
@[simp] theorem handoff_y (e : Lanes F32) (s : State) : (handoff e s).y = s.y := by
  simp only [handoff]
  split <;> rfl
@[simp] theorem handoff_c17 (e : Lanes F32) (s : State) : (handoff e s).c17 = s.c17 := by
  simp only [handoff]
  split <;> rfl
@[simp] theorem handoff_det (e : Lanes F32) (s : State) : (handoff e s).det = s.det := by
  simp only [handoff]
  split <;> rfl
@[simp] theorem handoff_s17 (e : Lanes F32) (s : State) : (handoff e s).s17 = s.s17 := by
  simp only [handoff]
  split <;> rfl
@[simp] theorem handoff_lng (e : Lanes F32) (s : State) : (handoff e s).lng = s.lng := by
  simp only [handoff]
  split <;> rfl
@[simp] theorem handoff_sym (e : Lanes F32) (s : State) : (handoff e s).sym = s.sym := by
  simp only [handoff]
  split <;> rfl
@[simp] theorem handoff_h (e : Lanes F32) (s : State) : (handoff e s).h = s.h := by
  simp only [handoff]
  split <;> rfl
@[simp] theorem handoff_sinceValid (e : Lanes F32) (s : State) : (handoff e s).sinceValid = s.sinceValid := by
  simp only [handoff]
  split <;> rfl
@[simp] theorem handoff_sincePush (e : Lanes F32) (s : State) : (handoff e s).sincePush = s.sincePush := by
  simp only [handoff]
  split <;> rfl
@[simp] theorem handoff_seqMatch (e : Lanes F32) (s : State) : (handoff e s).seqMatch = s.seqMatch := by
  simp only [handoff]
  split <;> rfl
@[simp] theorem handoff_anacnt (e : Lanes F32) (s : State) : (handoff e s).anacnt = s.anacnt := by
  simp only [handoff]
  split <;> rfl
@[simp] theorem handoff_ovr (e : Lanes F32) (s : State) : (handoff e s).ovr = (s.hv || s.ovr) := by
  simp only [handoff]
  split <;> simp [*]
@[simp] theorem handoff_err (e : Lanes F32) (s : State) : (handoff e s).err = s.err := by
  simp only [handoff]
  split <;> rfl
@[simp] theorem handoff_ecause (e : Lanes F32) (s : State) : (handoff e s).ecause = s.ecause := by
  simp only [handoff]
  split <;> rfl
@[simp] theorem handoff_cfg (e : Lanes F32) (s : State) : (handoff e s).cfg = s.cfg := by
  simp only [handoff]
  split <;> rfl
@[simp] theorem handoff_rsp (e : Lanes F32) (s : State) : (handoff e s).rsp = s.rsp := by
  simp only [handoff]
  split <;> rfl
@[simp] theorem handoff_responses (e : Lanes F32) (s : State) : (handoff e s).responses = s.responses := by
  simp only [handoff]
  split <;> rfl
@[simp] theorem handoff_queue (e : Lanes F32) (s : State) : (handoff e s).queue = s.queue := by
  simp only [handoff]
  split <;> rfl

@[simp] theorem clearErr_en (m : BitVec 2) (s : State) : (clearErr m s).en = s.en := by
  simp only [clearErr]
  split <;> rfl
@[simp] theorem clearErr_s1 (m : BitVec 2) (s : State) : (clearErr m s).s1 = s.s1 := by
  simp only [clearErr]
  split <;> rfl
@[simp] theorem clearErr_s2 (m : BitVec 2) (s : State) : (clearErr m s).s2 = s.s2 := by
  simp only [clearErr]
  split <;> rfl
@[simp] theorem clearErr_cnt (m : BitVec 2) (s : State) : (clearErr m s).cnt = s.cnt := by
  simp only [clearErr]
  split <;> rfl
@[simp] theorem clearErr_hv (m : BitVec 2) (s : State) : (clearErr m s).hv = s.hv := by
  simp only [clearErr]
  split <;> rfl
@[simp] theorem clearErr_he (m : BitVec 2) (s : State) : (clearErr m s).he = s.he := by
  simp only [clearErr]
  split <;> rfl
@[simp] theorem clearErr_y (m : BitVec 2) (s : State) : (clearErr m s).y = s.y := by
  simp only [clearErr]
  split <;> rfl
@[simp] theorem clearErr_c17 (m : BitVec 2) (s : State) : (clearErr m s).c17 = s.c17 := by
  simp only [clearErr]
  split <;> rfl
@[simp] theorem clearErr_det (m : BitVec 2) (s : State) : (clearErr m s).det = s.det := by
  simp only [clearErr]
  split <;> rfl
@[simp] theorem clearErr_s17 (m : BitVec 2) (s : State) : (clearErr m s).s17 = s.s17 := by
  simp only [clearErr]
  split <;> rfl
@[simp] theorem clearErr_lng (m : BitVec 2) (s : State) : (clearErr m s).lng = s.lng := by
  simp only [clearErr]
  split <;> rfl
@[simp] theorem clearErr_sym (m : BitVec 2) (s : State) : (clearErr m s).sym = s.sym := by
  simp only [clearErr]
  split <;> rfl
@[simp] theorem clearErr_h (m : BitVec 2) (s : State) : (clearErr m s).h = s.h := by
  simp only [clearErr]
  split <;> rfl
@[simp] theorem clearErr_sinceValid (m : BitVec 2) (s : State) : (clearErr m s).sinceValid = s.sinceValid := by
  simp only [clearErr]
  split <;> rfl
@[simp] theorem clearErr_sincePush (m : BitVec 2) (s : State) : (clearErr m s).sincePush = s.sincePush := by
  simp only [clearErr]
  split <;> rfl
@[simp] theorem clearErr_seqMatch (m : BitVec 2) (s : State) : (clearErr m s).seqMatch = s.seqMatch := by
  simp only [clearErr]
  split <;> rfl
@[simp] theorem clearErr_anacnt (m : BitVec 2) (s : State) : (clearErr m s).anacnt = s.anacnt := by
  simp only [clearErr]
  split <;> rfl
@[simp] theorem clearErr_ovr (m : BitVec 2) (s : State) : (clearErr m s).ovr = s.ovr := by
  simp only [clearErr]
  split <;> rfl
@[simp] theorem clearErr_err (m : BitVec 2) (s : State) : (clearErr m s).err = (!m.getLsbD 0 && s.err) := by
  cases e : m.getLsbD 0 <;> simp only [clearErr, e] <;> rfl
@[simp] theorem clearErr_ecause (m : BitVec 2) (s : State) : (clearErr m s).ecause = if m.getLsbD 0 then 0 else s.ecause := by
  simp only [clearErr]
  split <;> simp [*]
@[simp] theorem clearErr_cfg (m : BitVec 2) (s : State) : (clearErr m s).cfg = s.cfg := by
  simp only [clearErr]
  split <;> rfl
@[simp] theorem clearErr_rsp (m : BitVec 2) (s : State) : (clearErr m s).rsp = s.rsp := by
  simp only [clearErr]
  split <;> rfl
@[simp] theorem clearErr_responses (m : BitVec 2) (s : State) : (clearErr m s).responses = s.responses := by
  simp only [clearErr]
  split <;> rfl
@[simp] theorem clearErr_queue (m : BitVec 2) (s : State) : (clearErr m s).queue = s.queue := by
  simp only [clearErr]
  split <;> rfl

@[simp] theorem clearOvr_en (m : BitVec 2) (s : State) : (clearOvr m s).en = s.en := by
  simp only [clearOvr]
  split <;> rfl
@[simp] theorem clearOvr_s1 (m : BitVec 2) (s : State) : (clearOvr m s).s1 = s.s1 := by
  simp only [clearOvr]
  split <;> rfl
@[simp] theorem clearOvr_s2 (m : BitVec 2) (s : State) : (clearOvr m s).s2 = s.s2 := by
  simp only [clearOvr]
  split <;> rfl
@[simp] theorem clearOvr_cnt (m : BitVec 2) (s : State) : (clearOvr m s).cnt = s.cnt := by
  simp only [clearOvr]
  split <;> rfl
@[simp] theorem clearOvr_hv (m : BitVec 2) (s : State) : (clearOvr m s).hv = s.hv := by
  simp only [clearOvr]
  split <;> rfl
@[simp] theorem clearOvr_he (m : BitVec 2) (s : State) : (clearOvr m s).he = s.he := by
  simp only [clearOvr]
  split <;> rfl
@[simp] theorem clearOvr_y (m : BitVec 2) (s : State) : (clearOvr m s).y = s.y := by
  simp only [clearOvr]
  split <;> rfl
@[simp] theorem clearOvr_c17 (m : BitVec 2) (s : State) : (clearOvr m s).c17 = s.c17 := by
  simp only [clearOvr]
  split <;> rfl
@[simp] theorem clearOvr_det (m : BitVec 2) (s : State) : (clearOvr m s).det = s.det := by
  simp only [clearOvr]
  split <;> rfl
@[simp] theorem clearOvr_s17 (m : BitVec 2) (s : State) : (clearOvr m s).s17 = s.s17 := by
  simp only [clearOvr]
  split <;> rfl
@[simp] theorem clearOvr_lng (m : BitVec 2) (s : State) : (clearOvr m s).lng = s.lng := by
  simp only [clearOvr]
  split <;> rfl
@[simp] theorem clearOvr_sym (m : BitVec 2) (s : State) : (clearOvr m s).sym = s.sym := by
  simp only [clearOvr]
  split <;> rfl
@[simp] theorem clearOvr_h (m : BitVec 2) (s : State) : (clearOvr m s).h = s.h := by
  simp only [clearOvr]
  split <;> rfl
@[simp] theorem clearOvr_sinceValid (m : BitVec 2) (s : State) : (clearOvr m s).sinceValid = s.sinceValid := by
  simp only [clearOvr]
  split <;> rfl
@[simp] theorem clearOvr_sincePush (m : BitVec 2) (s : State) : (clearOvr m s).sincePush = s.sincePush := by
  simp only [clearOvr]
  split <;> rfl
@[simp] theorem clearOvr_seqMatch (m : BitVec 2) (s : State) : (clearOvr m s).seqMatch = s.seqMatch := by
  simp only [clearOvr]
  split <;> rfl
@[simp] theorem clearOvr_anacnt (m : BitVec 2) (s : State) : (clearOvr m s).anacnt = s.anacnt := by
  simp only [clearOvr]
  split <;> rfl
@[simp] theorem clearOvr_ovr (m : BitVec 2) (s : State) : (clearOvr m s).ovr = (!m.getLsbD 1 && s.ovr) := by
  cases e : m.getLsbD 1 <;> simp only [clearOvr, e] <;> rfl
@[simp] theorem clearOvr_err (m : BitVec 2) (s : State) : (clearOvr m s).err = s.err := by
  simp only [clearOvr]
  split <;> rfl
@[simp] theorem clearOvr_ecause (m : BitVec 2) (s : State) : (clearOvr m s).ecause = s.ecause := by
  simp only [clearOvr]
  split <;> rfl
@[simp] theorem clearOvr_cfg (m : BitVec 2) (s : State) : (clearOvr m s).cfg = s.cfg := by
  simp only [clearOvr]
  split <;> rfl
@[simp] theorem clearOvr_rsp (m : BitVec 2) (s : State) : (clearOvr m s).rsp = s.rsp := by
  simp only [clearOvr]
  split <;> rfl
@[simp] theorem clearOvr_responses (m : BitVec 2) (s : State) : (clearOvr m s).responses = s.responses := by
  simp only [clearOvr]
  split <;> rfl
@[simp] theorem clearOvr_queue (m : BitVec 2) (s : State) : (clearOvr m s).queue = s.queue := by
  simp only [clearOvr]
  split <;> rfl

@[simp] theorem smoothAll_en (n : Lanes Int) (s : State) : (smoothAll n s).en = s.en := rfl
@[simp] theorem smoothAll_s1 (n : Lanes Int) (s : State) : (smoothAll n s).s1 = s.s1 := rfl
@[simp] theorem smoothAll_s2 (n : Lanes Int) (s : State) : (smoothAll n s).s2 = s.s2 := rfl
@[simp] theorem smoothAll_cnt (n : Lanes Int) (s : State) : (smoothAll n s).cnt = s.cnt := rfl
@[simp] theorem smoothAll_hv (n : Lanes Int) (s : State) : (smoothAll n s).hv = s.hv := rfl
@[simp] theorem smoothAll_he (n : Lanes Int) (s : State) : (smoothAll n s).he = s.he := rfl
@[simp] theorem smoothAll_y (n : Lanes Int) (s : State) : (smoothAll n s).y = perChannel s.cfg 0 fun i => smooth s.cfg (s.y.get i) (n.get i) := rfl
@[simp] theorem smoothAll_c17 (n : Lanes Int) (s : State) : (smoothAll n s).c17 = s.c17 := rfl
@[simp] theorem smoothAll_det (n : Lanes Int) (s : State) : (smoothAll n s).det = s.det := rfl
@[simp] theorem smoothAll_s17 (n : Lanes Int) (s : State) : (smoothAll n s).s17 = s.s17 := rfl
@[simp] theorem smoothAll_lng (n : Lanes Int) (s : State) : (smoothAll n s).lng = s.lng := rfl
@[simp] theorem smoothAll_sym (n : Lanes Int) (s : State) : (smoothAll n s).sym = s.sym := rfl
@[simp] theorem smoothAll_h (n : Lanes Int) (s : State) : (smoothAll n s).h = s.h := rfl
@[simp] theorem smoothAll_sinceValid (n : Lanes Int) (s : State) : (smoothAll n s).sinceValid = s.sinceValid := rfl
@[simp] theorem smoothAll_sincePush (n : Lanes Int) (s : State) : (smoothAll n s).sincePush = s.sincePush := rfl
@[simp] theorem smoothAll_seqMatch (n : Lanes Int) (s : State) : (smoothAll n s).seqMatch = s.seqMatch := rfl
@[simp] theorem smoothAll_anacnt (n : Lanes Int) (s : State) : (smoothAll n s).anacnt = s.anacnt := rfl
@[simp] theorem smoothAll_ovr (n : Lanes Int) (s : State) : (smoothAll n s).ovr = s.ovr := rfl
@[simp] theorem smoothAll_err (n : Lanes Int) (s : State) : (smoothAll n s).err = s.err := rfl
@[simp] theorem smoothAll_ecause (n : Lanes Int) (s : State) : (smoothAll n s).ecause = s.ecause := rfl
@[simp] theorem smoothAll_cfg (n : Lanes Int) (s : State) : (smoothAll n s).cfg = s.cfg := rfl
@[simp] theorem smoothAll_rsp (n : Lanes Int) (s : State) : (smoothAll n s).rsp = s.rsp := rfl
@[simp] theorem smoothAll_responses (n : Lanes Int) (s : State) : (smoothAll n s).responses = s.responses := rfl
@[simp] theorem smoothAll_queue (n : Lanes Int) (s : State) : (smoothAll n s).queue = s.queue := rfl

@[simp] theorem decide1750_en (s : State) : (decide1750 s).en = s.en := rfl
@[simp] theorem decide1750_s1 (s : State) : (decide1750 s).s1 = s.s1 := rfl
@[simp] theorem decide1750_s2 (s : State) : (decide1750 s).s2 = s.s2 := rfl
@[simp] theorem decide1750_cnt (s : State) : (decide1750 s).cnt = s.cnt := rfl
@[simp] theorem decide1750_hv (s : State) : (decide1750 s).hv = s.hv := rfl
@[simp] theorem decide1750_he (s : State) : (decide1750 s).he = s.he := rfl
@[simp] theorem decide1750_y (s : State) : (decide1750 s).y = s.y := rfl
@[simp] theorem decide1750_c17 (s : State) : (decide1750 s).c17 = nextC17 s := rfl
@[simp] theorem decide1750_det (s : State) : (decide1750 s).det = nextDet s := rfl
@[simp] theorem decide1750_s17 (s : State) : (decide1750 s).s17 = nextS17 s := rfl
@[simp] theorem decide1750_lng (s : State) : (decide1750 s).lng = (nextS17 s == sustainBlocks s.cfg) := rfl
@[simp] theorem decide1750_sym (s : State) : (decide1750 s).sym = s.sym := rfl
@[simp] theorem decide1750_h (s : State) : (decide1750 s).h = s.h := rfl
@[simp] theorem decide1750_sinceValid (s : State) : (decide1750 s).sinceValid = s.sinceValid := rfl
@[simp] theorem decide1750_sincePush (s : State) : (decide1750 s).sincePush = s.sincePush := rfl
@[simp] theorem decide1750_seqMatch (s : State) : (decide1750 s).seqMatch = s.seqMatch := rfl
@[simp] theorem decide1750_anacnt (s : State) : (decide1750 s).anacnt = s.anacnt := rfl
@[simp] theorem decide1750_ovr (s : State) : (decide1750 s).ovr = s.ovr := rfl
@[simp] theorem decide1750_err (s : State) : (decide1750 s).err = s.err := rfl
@[simp] theorem decide1750_ecause (s : State) : (decide1750 s).ecause = s.ecause := rfl
@[simp] theorem decide1750_cfg (s : State) : (decide1750 s).cfg = s.cfg := rfl
@[simp] theorem decide1750_rsp (s : State) : (decide1750 s).rsp = s.rsp := rfl
@[simp] theorem decide1750_responses (s : State) : (decide1750 s).responses = s.responses := rfl
@[simp] theorem decide1750_queue (s : State) : (decide1750 s).queue = s.queue := rfl

@[simp] theorem decodeDtmf_en (s : State) : (decodeDtmf s).en = s.en := rfl
@[simp] theorem decodeDtmf_s1 (s : State) : (decodeDtmf s).s1 = s.s1 := rfl
@[simp] theorem decodeDtmf_s2 (s : State) : (decodeDtmf s).s2 = s.s2 := rfl
@[simp] theorem decodeDtmf_cnt (s : State) : (decodeDtmf s).cnt = s.cnt := rfl
@[simp] theorem decodeDtmf_hv (s : State) : (decodeDtmf s).hv = s.hv := rfl
@[simp] theorem decodeDtmf_he (s : State) : (decodeDtmf s).he = s.he := rfl
@[simp] theorem decodeDtmf_y (s : State) : (decodeDtmf s).y = s.y := rfl
@[simp] theorem decodeDtmf_c17 (s : State) : (decodeDtmf s).c17 = s.c17 := rfl
@[simp] theorem decodeDtmf_det (s : State) : (decodeDtmf s).det = s.det := rfl
@[simp] theorem decodeDtmf_s17 (s : State) : (decodeDtmf s).s17 = s.s17 := rfl
@[simp] theorem decodeDtmf_lng (s : State) : (decodeDtmf s).lng = s.lng := rfl
@[simp] theorem decodeDtmf_sym (s : State) : (decodeDtmf s).sym = symbolOf s.cfg (tonePattern s) := rfl
@[simp] theorem decodeDtmf_h (s : State) : (decodeDtmf s).h = s.h := rfl
@[simp] theorem decodeDtmf_sinceValid (s : State) : (decodeDtmf s).sinceValid = s.sinceValid := rfl
@[simp] theorem decodeDtmf_sincePush (s : State) : (decodeDtmf s).sincePush = s.sincePush := rfl
@[simp] theorem decodeDtmf_seqMatch (s : State) : (decodeDtmf s).seqMatch = s.seqMatch := rfl
@[simp] theorem decodeDtmf_anacnt (s : State) : (decodeDtmf s).anacnt = s.anacnt := rfl
@[simp] theorem decodeDtmf_ovr (s : State) : (decodeDtmf s).ovr = s.ovr := rfl
@[simp] theorem decodeDtmf_err (s : State) : (decodeDtmf s).err = s.err := rfl
@[simp] theorem decodeDtmf_ecause (s : State) : (decodeDtmf s).ecause = s.ecause := rfl
@[simp] theorem decodeDtmf_cfg (s : State) : (decodeDtmf s).cfg = s.cfg := rfl
@[simp] theorem decodeDtmf_rsp (s : State) : (decodeDtmf s).rsp = s.rsp := rfl
@[simp] theorem decodeDtmf_responses (s : State) : (decodeDtmf s).responses = s.responses := rfl
@[simp] theorem decodeDtmf_queue (s : State) : (decodeDtmf s).queue = s.queue := rfl

@[simp] theorem countTimers_en (s : State) : (countTimers s).en = s.en := rfl
@[simp] theorem countTimers_s1 (s : State) : (countTimers s).s1 = s.s1 := rfl
@[simp] theorem countTimers_s2 (s : State) : (countTimers s).s2 = s.s2 := rfl
@[simp] theorem countTimers_cnt (s : State) : (countTimers s).cnt = s.cnt := rfl
@[simp] theorem countTimers_hv (s : State) : (countTimers s).hv = s.hv := rfl
@[simp] theorem countTimers_he (s : State) : (countTimers s).he = s.he := rfl
@[simp] theorem countTimers_y (s : State) : (countTimers s).y = s.y := rfl
@[simp] theorem countTimers_c17 (s : State) : (countTimers s).c17 = s.c17 := rfl
@[simp] theorem countTimers_det (s : State) : (countTimers s).det = s.det := rfl
@[simp] theorem countTimers_s17 (s : State) : (countTimers s).s17 = s.s17 := rfl
@[simp] theorem countTimers_lng (s : State) : (countTimers s).lng = s.lng := rfl
@[simp] theorem countTimers_sym (s : State) : (countTimers s).sym = s.sym := rfl
@[simp] theorem countTimers_h (s : State) : (countTimers s).h = s.h := rfl
@[simp] theorem countTimers_sinceValid (s : State) : (countTimers s).sinceValid = if s.sym = Symbol.none then satInc s.sinceValid s.cfg.noneTimeout else 0 := rfl
@[simp] theorem countTimers_sincePush (s : State) : (countTimers s).sincePush = satInc s.sincePush s.cfg.debounce := rfl
@[simp] theorem countTimers_seqMatch (s : State) : (countTimers s).seqMatch = s.seqMatch := rfl
@[simp] theorem countTimers_anacnt (s : State) : (countTimers s).anacnt = s.anacnt := rfl
@[simp] theorem countTimers_ovr (s : State) : (countTimers s).ovr = s.ovr := rfl
@[simp] theorem countTimers_err (s : State) : (countTimers s).err = s.err := rfl
@[simp] theorem countTimers_ecause (s : State) : (countTimers s).ecause = s.ecause := rfl
@[simp] theorem countTimers_cfg (s : State) : (countTimers s).cfg = s.cfg := rfl
@[simp] theorem countTimers_rsp (s : State) : (countTimers s).rsp = s.rsp := rfl
@[simp] theorem countTimers_responses (s : State) : (countTimers s).responses = s.responses := rfl
@[simp] theorem countTimers_queue (s : State) : (countTimers s).queue = s.queue := rfl

@[simp] theorem push_en (p : Symbol) (s : State) : (push p s).en = s.en := rfl
@[simp] theorem push_s1 (p : Symbol) (s : State) : (push p s).s1 = s.s1 := rfl
@[simp] theorem push_s2 (p : Symbol) (s : State) : (push p s).s2 = s.s2 := rfl
@[simp] theorem push_cnt (p : Symbol) (s : State) : (push p s).cnt = s.cnt := rfl
@[simp] theorem push_hv (p : Symbol) (s : State) : (push p s).hv = s.hv := rfl
@[simp] theorem push_he (p : Symbol) (s : State) : (push p s).he = s.he := rfl
@[simp] theorem push_y (p : Symbol) (s : State) : (push p s).y = s.y := rfl
@[simp] theorem push_c17 (p : Symbol) (s : State) : (push p s).c17 = s.c17 := rfl
@[simp] theorem push_det (p : Symbol) (s : State) : (push p s).det = s.det := rfl
@[simp] theorem push_s17 (p : Symbol) (s : State) : (push p s).s17 = s.s17 := rfl
@[simp] theorem push_lng (p : Symbol) (s : State) : (push p s).lng = s.lng := rfl
@[simp] theorem push_sym (p : Symbol) (s : State) : (push p s).sym = s.sym := rfl
@[simp] theorem push_h (p : Symbol) (s : State) : (push p s).h = { h0 := s.h.h1, h1 := s.h.h2, h2 := p } := rfl
@[simp] theorem push_sinceValid (p : Symbol) (s : State) : (push p s).sinceValid = s.sinceValid := rfl
@[simp] theorem push_sincePush (p : Symbol) (s : State) : (push p s).sincePush = 0 := rfl
@[simp] theorem push_seqMatch (p : Symbol) (s : State) : (push p s).seqMatch = s.seqMatch := rfl
@[simp] theorem push_anacnt (p : Symbol) (s : State) : (push p s).anacnt = s.anacnt := rfl
@[simp] theorem push_ovr (p : Symbol) (s : State) : (push p s).ovr = s.ovr := rfl
@[simp] theorem push_err (p : Symbol) (s : State) : (push p s).err = s.err := rfl
@[simp] theorem push_ecause (p : Symbol) (s : State) : (push p s).ecause = s.ecause := rfl
@[simp] theorem push_cfg (p : Symbol) (s : State) : (push p s).cfg = s.cfg := rfl
@[simp] theorem push_rsp (p : Symbol) (s : State) : (push p s).rsp = s.rsp := rfl
@[simp] theorem push_responses (p : Symbol) (s : State) : (push p s).responses = s.responses := rfl
@[simp] theorem push_queue (p : Symbol) (s : State) : (push p s).queue = s.queue := rfl

@[simp] theorem matchSeq_en (s : State) : (matchSeq s).en = s.en := rfl
@[simp] theorem matchSeq_s1 (s : State) : (matchSeq s).s1 = s.s1 := rfl
@[simp] theorem matchSeq_s2 (s : State) : (matchSeq s).s2 = s.s2 := rfl
@[simp] theorem matchSeq_cnt (s : State) : (matchSeq s).cnt = s.cnt := rfl
@[simp] theorem matchSeq_hv (s : State) : (matchSeq s).hv = s.hv := rfl
@[simp] theorem matchSeq_he (s : State) : (matchSeq s).he = s.he := rfl
@[simp] theorem matchSeq_y (s : State) : (matchSeq s).y = s.y := rfl
@[simp] theorem matchSeq_c17 (s : State) : (matchSeq s).c17 = s.c17 := rfl
@[simp] theorem matchSeq_det (s : State) : (matchSeq s).det = s.det := rfl
@[simp] theorem matchSeq_s17 (s : State) : (matchSeq s).s17 = s.s17 := rfl
@[simp] theorem matchSeq_lng (s : State) : (matchSeq s).lng = s.lng := rfl
@[simp] theorem matchSeq_sym (s : State) : (matchSeq s).sym = s.sym := rfl
@[simp] theorem matchSeq_h (s : State) : (matchSeq s).h = s.h := rfl
@[simp] theorem matchSeq_sinceValid (s : State) : (matchSeq s).sinceValid = s.sinceValid := rfl
@[simp] theorem matchSeq_sincePush (s : State) : (matchSeq s).sincePush = s.sincePush := rfl
@[simp] theorem matchSeq_seqMatch (s : State) : (matchSeq s).seqMatch = (s.h == s.cfg.seq) := rfl
@[simp] theorem matchSeq_anacnt (s : State) : (matchSeq s).anacnt = s.anacnt := rfl
@[simp] theorem matchSeq_ovr (s : State) : (matchSeq s).ovr = s.ovr := rfl
@[simp] theorem matchSeq_err (s : State) : (matchSeq s).err = s.err := rfl
@[simp] theorem matchSeq_ecause (s : State) : (matchSeq s).ecause = s.ecause := rfl
@[simp] theorem matchSeq_cfg (s : State) : (matchSeq s).cfg = s.cfg := rfl
@[simp] theorem matchSeq_rsp (s : State) : (matchSeq s).rsp = s.rsp := rfl
@[simp] theorem matchSeq_responses (s : State) : (matchSeq s).responses = s.responses := rfl
@[simp] theorem matchSeq_queue (s : State) : (matchSeq s).queue = s.queue := rfl

@[simp] theorem finishAnalysis_en (s : State) : (finishAnalysis s).en = s.en := rfl
@[simp] theorem finishAnalysis_s1 (s : State) : (finishAnalysis s).s1 = s.s1 := rfl
@[simp] theorem finishAnalysis_s2 (s : State) : (finishAnalysis s).s2 = s.s2 := rfl
@[simp] theorem finishAnalysis_cnt (s : State) : (finishAnalysis s).cnt = s.cnt := rfl
@[simp] theorem finishAnalysis_hv (s : State) : (finishAnalysis s).hv = false := rfl
@[simp] theorem finishAnalysis_he (s : State) : (finishAnalysis s).he = s.he := rfl
@[simp] theorem finishAnalysis_y (s : State) : (finishAnalysis s).y = s.y := rfl
@[simp] theorem finishAnalysis_c17 (s : State) : (finishAnalysis s).c17 = s.c17 := rfl
@[simp] theorem finishAnalysis_det (s : State) : (finishAnalysis s).det = s.det := rfl
@[simp] theorem finishAnalysis_s17 (s : State) : (finishAnalysis s).s17 = s.s17 := rfl
@[simp] theorem finishAnalysis_lng (s : State) : (finishAnalysis s).lng = s.lng := rfl
@[simp] theorem finishAnalysis_sym (s : State) : (finishAnalysis s).sym = s.sym := rfl
@[simp] theorem finishAnalysis_h (s : State) : (finishAnalysis s).h = s.h := rfl
@[simp] theorem finishAnalysis_sinceValid (s : State) : (finishAnalysis s).sinceValid = s.sinceValid := rfl
@[simp] theorem finishAnalysis_sincePush (s : State) : (finishAnalysis s).sincePush = s.sincePush := rfl
@[simp] theorem finishAnalysis_seqMatch (s : State) : (finishAnalysis s).seqMatch = s.seqMatch := rfl
@[simp] theorem finishAnalysis_anacnt (s : State) : (finishAnalysis s).anacnt = s.anacnt + 1 := rfl
@[simp] theorem finishAnalysis_ovr (s : State) : (finishAnalysis s).ovr = s.ovr := rfl
@[simp] theorem finishAnalysis_err (s : State) : (finishAnalysis s).err = s.err := rfl
@[simp] theorem finishAnalysis_ecause (s : State) : (finishAnalysis s).ecause = s.ecause := rfl
@[simp] theorem finishAnalysis_cfg (s : State) : (finishAnalysis s).cfg = s.cfg := rfl
@[simp] theorem finishAnalysis_rsp (s : State) : (finishAnalysis s).rsp = s.rsp := rfl
@[simp] theorem finishAnalysis_responses (s : State) : (finishAnalysis s).responses = s.responses := rfl
@[simp] theorem finishAnalysis_queue (s : State) : (finishAnalysis s).queue = s.queue := rfl

@[simp] theorem resetOf_en (c : Config) : (State.resetOf c).en = false := rfl
@[simp] theorem resetOf_s1 (c : Config) : (State.resetOf c).s1 = Lanes.const F32.zero := rfl
@[simp] theorem resetOf_s2 (c : Config) : (State.resetOf c).s2 = Lanes.const F32.zero := rfl
@[simp] theorem resetOf_cnt (c : Config) : (State.resetOf c).cnt = 0 := rfl
@[simp] theorem resetOf_hv (c : Config) : (State.resetOf c).hv = false := rfl
@[simp] theorem resetOf_he (c : Config) : (State.resetOf c).he = Lanes.const F32.zero := rfl
@[simp] theorem resetOf_y (c : Config) : (State.resetOf c).y = Lanes.const 0 := rfl
@[simp] theorem resetOf_c17 (c : Config) : (State.resetOf c).c17 = 0 := rfl
@[simp] theorem resetOf_det (c : Config) : (State.resetOf c).det = false := rfl
@[simp] theorem resetOf_s17 (c : Config) : (State.resetOf c).s17 = 0 := rfl
@[simp] theorem resetOf_lng (c : Config) : (State.resetOf c).lng = false := rfl
@[simp] theorem resetOf_sym (c : Config) : (State.resetOf c).sym = Symbol.none := rfl
@[simp] theorem resetOf_h (c : Config) : (State.resetOf c).h = { h0 := Symbol.none, h1 := Symbol.none, h2 := Symbol.none } := rfl
@[simp] theorem resetOf_sinceValid (c : Config) : (State.resetOf c).sinceValid = 0 := rfl
@[simp] theorem resetOf_sincePush (c : Config) : (State.resetOf c).sincePush = c.debounce := rfl
@[simp] theorem resetOf_seqMatch (c : Config) : (State.resetOf c).seqMatch = false := rfl
@[simp] theorem resetOf_anacnt (c : Config) : (State.resetOf c).anacnt = 0 := rfl
@[simp] theorem resetOf_ovr (c : Config) : (State.resetOf c).ovr = false := rfl
@[simp] theorem resetOf_err (c : Config) : (State.resetOf c).err = false := rfl
@[simp] theorem resetOf_ecause (c : Config) : (State.resetOf c).ecause = 0 := rfl
@[simp] theorem resetOf_cfg (c : Config) : (State.resetOf c).cfg = c := rfl
@[simp] theorem resetOf_rsp (c : Config) : (State.resetOf c).rsp = none := rfl
@[simp] theorem resetOf_responses (c : Config) : (State.resetOf c).responses = [] := rfl
@[simp] theorem resetOf_queue (c : Config) : (State.resetOf c).queue = [] := rfl

@[simp] theorem resetStep_en (s : State) : (resetStep s).en = false := rfl
@[simp] theorem resetStep_s1 (s : State) : (resetStep s).s1 = Lanes.const F32.zero := rfl
@[simp] theorem resetStep_s2 (s : State) : (resetStep s).s2 = Lanes.const F32.zero := rfl
@[simp] theorem resetStep_cnt (s : State) : (resetStep s).cnt = 0 := rfl
@[simp] theorem resetStep_hv (s : State) : (resetStep s).hv = false := rfl
@[simp] theorem resetStep_he (s : State) : (resetStep s).he = Lanes.const F32.zero := rfl
@[simp] theorem resetStep_y (s : State) : (resetStep s).y = Lanes.const 0 := rfl
@[simp] theorem resetStep_c17 (s : State) : (resetStep s).c17 = 0 := rfl
@[simp] theorem resetStep_det (s : State) : (resetStep s).det = false := rfl
@[simp] theorem resetStep_s17 (s : State) : (resetStep s).s17 = 0 := rfl
@[simp] theorem resetStep_lng (s : State) : (resetStep s).lng = false := rfl
@[simp] theorem resetStep_sym (s : State) : (resetStep s).sym = Symbol.none := rfl
@[simp] theorem resetStep_h (s : State) : (resetStep s).h = { h0 := Symbol.none, h1 := Symbol.none, h2 := Symbol.none } := rfl
@[simp] theorem resetStep_sinceValid (s : State) : (resetStep s).sinceValid = 0 := rfl
@[simp] theorem resetStep_sincePush (s : State) : (resetStep s).sincePush = s.cfg.debounce := rfl
@[simp] theorem resetStep_seqMatch (s : State) : (resetStep s).seqMatch = false := rfl
@[simp] theorem resetStep_anacnt (s : State) : (resetStep s).anacnt = 0 := rfl
@[simp] theorem resetStep_ovr (s : State) : (resetStep s).ovr = false := rfl
@[simp] theorem resetStep_err (s : State) : (resetStep s).err = false := rfl
@[simp] theorem resetStep_ecause (s : State) : (resetStep s).ecause = 0 := rfl
@[simp] theorem resetStep_cfg (s : State) : (resetStep s).cfg = s.cfg := rfl
@[simp] theorem resetStep_rsp (s : State) : (resetStep s).rsp = none := rfl
@[simp] theorem resetStep_responses (s : State) : (resetStep s).responses = s.responses := rfl
@[simp] theorem resetStep_queue (s : State) : (resetStep s).queue = s.queue := rfl

@[simp] theorem maybePush_en (s : State) : (maybePush s).en = s.en := by
  simp only [maybePush]
  split <;> (try split) <;> rfl
@[simp] theorem maybePush_s1 (s : State) : (maybePush s).s1 = s.s1 := by
  simp only [maybePush]
  split <;> (try split) <;> rfl
@[simp] theorem maybePush_s2 (s : State) : (maybePush s).s2 = s.s2 := by
  simp only [maybePush]
  split <;> (try split) <;> rfl
@[simp] theorem maybePush_cnt (s : State) : (maybePush s).cnt = s.cnt := by
  simp only [maybePush]
  split <;> (try split) <;> rfl
@[simp] theorem maybePush_hv (s : State) : (maybePush s).hv = s.hv := by
  simp only [maybePush]
  split <;> (try split) <;> rfl
@[simp] theorem maybePush_he (s : State) : (maybePush s).he = s.he := by
  simp only [maybePush]
  split <;> (try split) <;> rfl
@[simp] theorem maybePush_y (s : State) : (maybePush s).y = s.y := by
  simp only [maybePush]
  split <;> (try split) <;> rfl
@[simp] theorem maybePush_c17 (s : State) : (maybePush s).c17 = s.c17 := by
  simp only [maybePush]
  split <;> (try split) <;> rfl
@[simp] theorem maybePush_det (s : State) : (maybePush s).det = s.det := by
  simp only [maybePush]
  split <;> (try split) <;> rfl
@[simp] theorem maybePush_s17 (s : State) : (maybePush s).s17 = s.s17 := by
  simp only [maybePush]
  split <;> (try split) <;> rfl
@[simp] theorem maybePush_lng (s : State) : (maybePush s).lng = s.lng := by
  simp only [maybePush]
  split <;> (try split) <;> rfl
@[simp] theorem maybePush_sym (s : State) : (maybePush s).sym = s.sym := by
  simp only [maybePush]
  split <;> (try split) <;> rfl
@[simp] theorem maybePush_sinceValid (s : State) : (maybePush s).sinceValid = s.sinceValid := by
  simp only [maybePush]
  split <;> (try split) <;> rfl
@[simp] theorem maybePush_seqMatch (s : State) : (maybePush s).seqMatch = s.seqMatch := by
  simp only [maybePush]
  split <;> (try split) <;> rfl
@[simp] theorem maybePush_anacnt (s : State) : (maybePush s).anacnt = s.anacnt := by
  simp only [maybePush]
  split <;> (try split) <;> rfl
@[simp] theorem maybePush_ovr (s : State) : (maybePush s).ovr = s.ovr := by
  simp only [maybePush]
  split <;> (try split) <;> rfl
@[simp] theorem maybePush_err (s : State) : (maybePush s).err = s.err := by
  simp only [maybePush]
  split <;> (try split) <;> rfl
@[simp] theorem maybePush_ecause (s : State) : (maybePush s).ecause = s.ecause := by
  simp only [maybePush]
  split <;> (try split) <;> rfl
@[simp] theorem maybePush_cfg (s : State) : (maybePush s).cfg = s.cfg := by
  simp only [maybePush]
  split <;> (try split) <;> rfl
@[simp] theorem maybePush_rsp (s : State) : (maybePush s).rsp = s.rsp := by
  simp only [maybePush]
  split <;> (try split) <;> rfl
@[simp] theorem maybePush_responses (s : State) : (maybePush s).responses = s.responses := by
  simp only [maybePush]
  split <;> (try split) <;> rfl
@[simp] theorem maybePush_queue (s : State) : (maybePush s).queue = s.queue := by
  simp only [maybePush]
  split <;> (try split) <;> rfl

@[simp] theorem perChannel_get {α : Type} (c : Config) (a : α) (f : Fin 5 → α) (i : Fin 5) :
    (perChannel c a f).get i = if i.val < c.nch then f i else a := by simp [perChannel]

/-- Two states are equal when every field is. -/
theorem State.ext_fields {s t : State} (e_en : s.en = t.en) (e_s1 : s.s1 = t.s1) (e_s2 : s.s2 = t.s2) (e_cnt : s.cnt = t.cnt) (e_hv : s.hv = t.hv) (e_he : s.he = t.he) (e_y : s.y = t.y) (e_c17 : s.c17 = t.c17) (e_det : s.det = t.det) (e_s17 : s.s17 = t.s17) (e_lng : s.lng = t.lng) (e_sym : s.sym = t.sym) (e_h : s.h = t.h) (e_sinceValid : s.sinceValid = t.sinceValid) (e_sincePush : s.sincePush = t.sincePush) (e_seqMatch : s.seqMatch = t.seqMatch) (e_anacnt : s.anacnt = t.anacnt) (e_ovr : s.ovr = t.ovr) (e_err : s.err = t.err) (e_ecause : s.ecause = t.ecause) (e_cfg : s.cfg = t.cfg) (e_rsp : s.rsp = t.rsp) (e_responses : s.responses = t.responses) (e_queue : s.queue = t.queue) : s = t := by
  cases s
  cases t
  simp_all

end Sys2Proof.Machine
end

