-- ==== Sys2Proof/Laws/Ops.lean ====
section
/-! SUPPORT. One lemma per shared operation that says once everything it can do: the meanings of the commands, the analysis,
which step a state takes, and what a step can be. -/

namespace Sys2Proof.Machine

/-! The primitives of R12. -/

theorem satInc_le (v m : Nat) : satInc v m ≤ m := Nat.min_le_right _ _

theorem satDec_le (v : Nat) : satDec v ≤ v := Nat.sub_le v 1

theorem clamp_mem (v : Int) {lo hi : Int} (h : lo ≤ hi) : lo ≤ clamp v lo hi ∧ clamp v lo hi ≤ hi :=
  ⟨le_max_left _ _, max_le h (min_le_left _ _)⟩

/-! The sample path. -/

/-- Everything SAMPLE can do: discard, accept, or accept and complete a block. -/
theorem execSample_cases (x : Int) (s : State) :
    (s.en = false ∧ execSample x s = .next s) ∨
      (s.en = true ∧ s.cnt + 1 ≠ s.cfg.nBlock ∧ execSample x s = .next (acceptSample x s)) ∨
        (s.en = true ∧ s.cnt + 1 = s.cfg.nBlock ∧ execSample x s = .next (completeBlock (acceptSample x s))) := by
  cases hen : s.en with
  | false => exact .inl ⟨rfl, by simp [execSample, hen]⟩
  | true =>
    by_cases hb : s.cnt + 1 = s.cfg.nBlock
    · exact .inr (.inr ⟨rfl, hb, by simp [execSample, hen, acceptSample, hb]⟩)
    · exact .inr (.inl ⟨rfl, hb, by simp [execSample, hen, acceptSample, hb]⟩)

/-! The control commands. -/

/-- Everything SETEN can do. -/
theorem execSeten_cases (e : Bool) (s : State) :
    (e = s.en ∧ execSeten e s = .next s) ∨
      (e ≠ s.en ∧ execSeten e s = .next { restartBlock s with en := e }) := by
  by_cases h : e = s.en
  · exact .inl ⟨h, by simp [execSeten, h]⟩
  · exact .inr ⟨h, by simp [execSeten, h]⟩

/-- Everything RDREG can do. -/
theorem execRdreg_cases (idx : BitVec 4) (s : State) :
    (∃ v, readReg idx s = some v ∧ execRdreg idx s = .next (respond v s)) ∨
      (readReg idx s = none ∧ execRdreg idx s = .next (recordError reservedReg (respond 0#32 s))) := by
  unfold execRdreg
  split
  · rename_i v h
    exact .inl ⟨v, h, rfl⟩
  · rename_i h
    exact .inr ⟨h, rfl⟩

/-- Every command answers a next state. -/
theorem exec_answers (i : Instr) (s : State) : ∃ t, exec i s = .next t := by
  cases i with
  | nop => exact ⟨s, rfl⟩
  | sample x =>
    obtain ⟨_, h⟩ | ⟨_, _, h⟩ | ⟨_, _, h⟩ := execSample_cases x s <;> exact ⟨_, h⟩
  | seten e =>
    obtain ⟨_, h⟩ | ⟨_, h⟩ := execSeten_cases e s <;> exact ⟨_, h⟩
  | rdreg idx =>
    obtain ⟨_, _, h⟩ | ⟨_, h⟩ := execRdreg_cases idx s <;> exact ⟨_, h⟩
  | clrst m => exact ⟨_, rfl⟩

/-! The channels. -/

/-- With the source's five channels every lane carries one. -/
theorem perChannel_all {α : Type} {c : Config} (h : 5 ≤ c.nch) (a : α) (f : Fin 5 → α) : perChannel c a f = Lanes.ofFn f :=
  Lanes.ext_get fun i => by simp [Nat.lt_of_lt_of_le i.isLt h]

theorem channelList_all {α : Type} {c : Config} (h : c.nch = 5) (l : Lanes α) :
    channelList c l = [l.c0, l.c1, l.c2, l.c3, l.c4] := by simp [channelList, Lanes.toList, h]

/-! The analysis. -/

/-- R92 with the source's five channels. -/
theorem meanOf_all {c : Config} (h : c.nch = 5) (e : Lanes F32) :
    meanOf c e = F32.div (F32.add (F32.add (F32.add (F32.add e.c0 e.c1) e.c2) e.c3) e.c4) (F32.ofInt 5) := by
  simp [meanOf, channelList_all h, chain, h]

theorem rangeOf_all {c : Config} (h : c.nch = 5) (e : Lanes F32) :
    rangeOf c e = F32.sub (F32.maxF (F32.maxF (F32.maxF (F32.maxF e.c0 e.c1) e.c2) e.c3) e.c4)
      (F32.minF (F32.minF (F32.minF (F32.minF e.c0 e.c1) e.c2) e.c3) e.c4) := by
  simp [rangeOf, channelList_all h, chain]

/-- A push happens with a candidate that differs from the newest entry and a debounce interval that has passed, or the
history stands. -/
theorem maybePush_cases (s : State) :
    (∃ p, candidate s = some p ∧ p ≠ s.h.h2 ∧ s.sincePush = s.cfg.debounce ∧ maybePush s = push p s) ∨
      maybePush s = s := by
  unfold maybePush
  split
  · rename_i p hp
    split
    · rename_i hc
      exact .inl ⟨p, hp, hc.1, hc.2, rfl⟩
    · exact .inr rfl
  · exact .inr rfl

@[simp] theorem analyzeWith_en (f : Lanes F32 → Lanes Int) (s : State) : (analyzeWith f s).en = s.en := by simp [analyzeWith]
@[simp] theorem analyzeWith_s1 (f : Lanes F32 → Lanes Int) (s : State) : (analyzeWith f s).s1 = s.s1 := by simp [analyzeWith]
@[simp] theorem analyzeWith_s2 (f : Lanes F32 → Lanes Int) (s : State) : (analyzeWith f s).s2 = s.s2 := by simp [analyzeWith]
@[simp] theorem analyzeWith_cnt (f : Lanes F32 → Lanes Int) (s : State) : (analyzeWith f s).cnt = s.cnt := by simp [analyzeWith]
@[simp] theorem analyzeWith_hv (f : Lanes F32 → Lanes Int) (s : State) : (analyzeWith f s).hv = false := by simp [analyzeWith]
@[simp] theorem analyzeWith_he (f : Lanes F32 → Lanes Int) (s : State) : (analyzeWith f s).he = s.he := by simp [analyzeWith]
@[simp] theorem analyzeWith_cfg (f : Lanes F32 → Lanes Int) (s : State) : (analyzeWith f s).cfg = s.cfg := by simp [analyzeWith]
@[simp] theorem analyzeWith_ovr (f : Lanes F32 → Lanes Int) (s : State) : (analyzeWith f s).ovr = s.ovr := by simp [analyzeWith]
@[simp] theorem analyzeWith_err (f : Lanes F32 → Lanes Int) (s : State) : (analyzeWith f s).err = s.err := by simp [analyzeWith]
@[simp] theorem analyzeWith_ecause (f : Lanes F32 → Lanes Int) (s : State) : (analyzeWith f s).ecause = s.ecause := by simp [analyzeWith]
@[simp] theorem analyzeWith_rsp (f : Lanes F32 → Lanes Int) (s : State) : (analyzeWith f s).rsp = s.rsp := by simp [analyzeWith]
@[simp] theorem analyzeWith_responses (f : Lanes F32 → Lanes Int) (s : State) : (analyzeWith f s).responses = s.responses := by simp [analyzeWith]
@[simp] theorem analyzeWith_queue (f : Lanes F32 → Lanes Int) (s : State) : (analyzeWith f s).queue = s.queue := by simp [analyzeWith]
@[simp] theorem analyzeWith_anacnt (f : Lanes F32 → Lanes Int) (s : State) : (analyzeWith f s).anacnt = s.anacnt + 1 := by simp [analyzeWith]
@[simp] theorem analyzeWith_y (f : Lanes F32 → Lanes Int) (s : State) : (analyzeWith f s).y = (smoothAll (f s.he) s).y := by simp [analyzeWith]
@[simp] theorem analyzeWith_c17 (f : Lanes F32 → Lanes Int) (s : State) : (analyzeWith f s).c17 = nextC17 (smoothAll (f s.he) s) := by simp [analyzeWith]
@[simp] theorem analyzeWith_det (f : Lanes F32 → Lanes Int) (s : State) : (analyzeWith f s).det = nextDet (smoothAll (f s.he) s) := by simp [analyzeWith]
@[simp] theorem analyzeWith_s17 (f : Lanes F32 → Lanes Int) (s : State) : (analyzeWith f s).s17 = nextS17 (smoothAll (f s.he) s) := by simp [analyzeWith]
@[simp] theorem analyzeWith_lng (f : Lanes F32 → Lanes Int) (s : State) :
    (analyzeWith f s).lng = (nextS17 (smoothAll (f s.he) s) == sustainBlocks s.cfg) := by simp [analyzeWith]

/-! Steps. -/

/-- A refused configuration takes no step. -/
theorem step_refused {s : State} (h : configOk s.cfg = false) : step s = .refused .configRefused := by
  simp [step, h]

/-- Everything a step that answers a next state can be. -/
theorem step_cases {s t : State} (h : step s = .next t) :
    configOk s.cfg = true ∧
      ((turn s = .quiescent ∧ t = silent s) ∨
        (turn s = .analyze ∧ t = analyzeWith (normalize s.cfg) (silent s)) ∨
          (∃ w, turn s = .command w ∧ runWord w (consume s) = .next t) ∨
            (turn s = .reset ∧ t = resetStep (consume s))) := by
  by_cases hc : configOk s.cfg = true
  · refine ⟨hc, ?_⟩
    simp only [step, hc, if_true] at h
    split at h
    · rename_i ht
      injection h with h
      exact .inl ⟨ht, h.symm⟩
    · rename_i ht
      injection h with h
      exact .inr (.inl ⟨ht, h.symm⟩)
    · rename_i w ht
      exact .inr (.inr (.inl ⟨w, ht, h⟩))
    · rename_i ht
      injection h with h
      exact .inr (.inr (.inr ⟨ht, h.symm⟩))
  · simp [step, hc] at h

/-- What running a word does: the decoded command's meaning, or the record of an ILLEGAL word. -/
theorem runWord_cases {w : Word} {s t : State} (h : runWord w s = .next t) :
    (∃ i, decode w = .ok i ∧ exec i s = .next t) ∨
      ((∃ e, decode w = .error e) ∧ t = recordError illegalCmd s) := by
  unfold runWord at h
  split at h
  · rename_i i hi
    exact .inl ⟨i, hi, h⟩
  · rename_i e he
    injection h with h
    exact .inr ⟨⟨e, he⟩, h.symm⟩

end Sys2Proof.Machine
end

