-- ==== Sys2Proof/Laws/PerInstr.lean ====
section
/-! SUPPORT. One family of statements per command, about its encoding: the OP field it is given (R67) and that its reserved bits
[27:16] are 0 (R66). -/

namespace Sys2Proof.Laws.OpFields

/-- The OP value of a command's row (R67). -/
def opOf : Instr → BitVec 4
  | .nop => 0x0#4
  | .sample _ => 0x1#4
  | .seten _ => 0x2#4
  | .rdreg _ => 0x3#4
  | .clrst _ => 0x4#4

/-- A command's word has its row's OP and no reserved bit (R66, R67). -/
def Statement (i : Instr) : Prop := opField (encode i) = opOf i ∧ (encode i).extractLsb' 16 12 = 0#12

theorem nop : Statement .nop := by unfold Statement; decide

theorem sample (x : Int) : Statement (.sample x) := by
  have h : ∀ v : BitVec 16, opField (0x10000000#32 ||| v.setWidth 32) = 0x1#4 ∧
      (0x10000000#32 ||| v.setWidth 32).extractLsb' 16 12 = 0#12 := by
    intro v
    constructor <;> ext i hi <;> interval_cases i <;> simp [opField]
  exact h _

theorem seten (e : Bool) : Statement (.seten e) := by cases e <;> unfold Statement <;> decide

theorem rdreg (idx : BitVec 4) : Statement (.rdreg idx) := by
  revert idx
  unfold Statement
  decide

theorem clrst (m : BitVec 2) : Statement (.clrst m) := by
  revert m
  unfold Statement
  decide

end Sys2Proof.Laws.OpFields
end

