-- ==== Sys2Proof/Laws/Runs.lean ====
section
/-! SUPPORT. Runs: a step carries the count of analyses on (R164), and a run of some steps as a computation. -/

namespace Sys2Proof.Machine

/-- A step from a state with n analyses gives one with the number `analysesAfterStep` says. -/
theorem ReachableAfter.of_step {n : Nat} {s t : State} (r : ReachableAfter n s) (st : step s = .next t) :
    ReachableAfter (analysesAfterStep n s) t := by
  cases tu : turn s with
  | quiescent => simpa [analysesAfterStep, tu] using ReachableAfter.quiescent n s t r tu st
  | analyze => simpa [analysesAfterStep, tu] using ReachableAfter.analysis n s t r tu st
  | command w => simpa [analysesAfterStep, tu] using ReachableAfter.command n s t w r tu st
  | reset => simpa [analysesAfterStep, tu] using ReachableAfter.reset n s t r tu st

/-- Some steps in a row, with the count of analyses. -/
def runFor : Nat → Nat × State → Option (Nat × State)
  | 0, p => some p
  | k + 1, (n, s) =>
    match step s with
    | .next t => runFor k (analysesAfterStep n s, t)
    | .fault _ | .refused _ => none

/-- What a run of some steps reaches is reached. -/
theorem ReachableAfter.of_runFor (k : Nat) {n m : Nat} {s t : State} (r : ReachableAfter n s)
    (e : runFor k (n, s) = some (m, t)) : ReachableAfter m t := by
  induction k generalizing n s with
  | zero =>
    simp only [runFor, Option.some.injEq, Prod.mk.injEq] at e
    obtain ⟨rfl, rfl⟩ := e
    exact r
  | succ k ih =>
    simp only [runFor] at e
    split at e
    · rename_i u hu
      exact ih (r.of_step hu) e
    all_goals simp at e

end Sys2Proof.Machine
end

