-- ==== Sys2Proof/Tests/Slice0.lean ====
section
/-! SUPPORT. The model's own tests, one step or one value each, with the expected result taken from 95_test_vectors.md or from the
examples of the rules (named at each), and the witnesses that the statements' hypotheses can be met. -/

namespace Sys2Proof.Tests

open Sys2Proof.Machine

/-- Whether an outcome is a next state that passes a check. -/
def nextIs (r : Result) (p : State → Bool) : Bool :=
  match r with
  | .next t => p t
  | _ => false

/-- The enabled detector of TC right after reset and `SETEN 1`. -/
def enabled : State := { State.reset with en := true }

/-- The enabled detector with the last sample of a block due. -/
def lastSample : State := { enabled with cnt := 799 }

/-- `s` with one word presented, and AN not going before it. -/
def due (w : Word) (s : State) : State := { s with queue := [{ event := .word w, anFirst := false }] }

/-- A state with a full slot. -/
def pending (e : Lanes F32) : State := { State.reset with hv := true, he := e }

/-! ## WellFormed -/

theorem test_wf_refuses_sample_above : (Instr.sample 32768).wf = false := by decide
theorem test_wf_refuses_sample_below : (Instr.sample (-32769)).wf = false := by decide
theorem test_wf_accepts_bounds : (Instr.sample 32767).wf = true ∧ (Instr.sample (-32768)).wf = true := by decide

/-! ## Decoding (95 section 3.1, words from R68 to R73) -/

theorem test_decode_nop : decodeTableWord 32 0x00000000 = some .nop := by decide
theorem test_decode_sample : decodeTableWord 32 0x1000FC18 = some (.sample (-1000)) := by decide
theorem test_decode_sample_min : decodeTableWord 32 0x10008000 = some (.sample (-32768)) := by decide
theorem test_decode_seten : decodeTableWord 32 0x20000001 = some (.seten true) := by decide
theorem test_decode_rdreg : decodeTableWord 32 0x3000000F = some (.rdreg 15#4) := by decide
theorem test_decode_clrst : decodeTableWord 32 0x40000003 = some (.clrst 3#2) := by decide
theorem test_decode_illegal :
    ([0x00000001#32, 0x10010000#32, 0x11000000#32, 0x20000002#32, 0x30000010#32, 0x40000004#32, 0x50000000#32,
      0x80000000#32, 0xFFFFFFFF#32].all fun w => !(decode w).isOk) = true := by decide
theorem test_illegal_by_name :
    decodeBytes [0x00, 0x00, 0x00, 0x50] = .error (.reservedOp 5#4) ∧
      decodeBytes [0x00, 0x00, 0x01, 0x10] = .error (.reservedBits 1#4) ∧ decodeBytes [0, 0, 0] = .error .shortWord := by
  refine ⟨rfl, rfl, rfl⟩
theorem test_encode_sample : encode (.sample (-1000)) = 0x1000FC18#32 := by decide
theorem test_encode_others :
    encode .nop = 0#32 ∧ encode (.seten true) = 0x20000001#32 ∧ encode (.rdreg 12#4) = 0x3000000C#32
      ∧ encode (.clrst 3#2) = 0x40000003#32 := by decide

/-! ## Binary32 and the configuration -/

/-- R83's example: 0x3FDDB3D7 times 1000.0 is 1732.05078125. -/
theorem test_mul : F32.mul 0x3FDDB3D7#32 0x447A0000#32 = 0x44D881A0#32 := by decide
/-- R94's example: the mean of (5, 1, 1, 1, 1) is 1.79999995 (0x3FE66666). -/
theorem test_div : F32.div (F32.ofInt 9) (F32.ofInt 5) = 0x3FE66666#32 := by decide
/-- Gradual underflow (R13): the least subnormal halved is a tie, to even: +0. -/
theorem test_underflow_tie : F32.mul 0x00000001#32 0x3F000000#32 = 0x00000000#32 := by decide
theorem test_tc_meets_R9 : configOk Config.tc = true := by decide
/-- R6: the parameters the source fixes have its values by default. -/
theorem test_source_values :
    (Config.tc.nch, Config.tc.nBlock, Config.tc.wHist, Config.tc.wNew, Config.tc.wShift, Config.tc.sustainS, Config.tc.ndtmf)
      = (5, 800, 11, 5, 4, 5, 4) ∧ Config.tc.f.c4 = { num := 1750, den := 1 } := by decide
/-- R5 (b): each of them can be given another value. -/
theorem test_audited_values :
    ([{ Config.tc with nch := 4 }, { Config.tc with nBlock := 205 }, { Config.tc with wHist := 12, wNew := 4 },
      { Config.tc with wHist := 3, wNew := 5, wShift := 3 }, { Config.tc with f4 := { num := 2100, den := 1 } },
      { Config.tc with sustainS := 3 }, { Config.tc with ndtmf := 3 }].all configOk) = true := by decide
/-- R92, R94 by hand for four channels: the mean of (1, 2, 3, 4) is 2.5 and their range 3; channel 4 takes no part. -/
theorem test_normalize_four_channels :
    normalize { Config.tc with nch := 4 }
        { c0 := F32.ofInt 1, c1 := F32.ofInt 2, c2 := F32.ofInt 3, c3 := F32.ofInt 4, c4 := F32.ofInt 5 }
      = { c0 := -50, c1 := -16, c2 := 16, c3 := 50, c4 := 0 } := by decide +kernel
/-- R8: 44 blocks at 7000 Hz. -/
theorem test_sustain_blocks : sustainBlocks Config.tc = 44 := by decide
/-- R82's example: FS/6 gives the coefficient 1.0. -/
theorem test_derived_coeff : deriveCoeff { num := 7000, den := 6 } { num := 7000, den := 1 } = 0x3F800000#32 := by decide
/-- 95 section 1: the nearest binary32 to 2 cos(pi/6). -/
theorem test_derived_coeff_sqrt3 : deriveCoeff { num := 7000, den := 12 } { num := 7000, den := 1 } = 0x3FDDB3D7#32 := by decide

/-! ## The commands (95 sections 3.2, 3.3, 3.9) -/

/-- S1. -/
theorem test_sample_disabled : nextIs (exec (.sample 1000) State.reset) (· == State.reset) = true := by decide
/-- S3. -/
theorem test_sample_channels :
    nextIs (exec (.sample 0) { enabled with s1 := Lanes.const 0x447A0000#32, cnt := 1 })
      (fun t => t.s1 == { c0 := 0x44D881A0#32, c1 := 0x44CA4117#32, c2 := 0x447A0000#32, c3 := 0x441A822D#32, c4 := 0#32 }
        && t.s2 == Lanes.const 0x447A0000#32 && t.cnt == 2) = true := by decide
/-- S6: the slot is full. -/
theorem test_sample_overrun :
    nextIs (exec (.sample 7) { lastSample with hv := true, s1 := Lanes.const 0x447A0000#32 })
      (fun t => t.ovr && t.hv && t.he == Lanes.const 0#32 && t.s1 == Lanes.const 0#32 && t.cnt == 0) = true := by decide
/-- 95 section 3.3, third row: the energy at taps (−1000, 1000) with coefficient 1.0 is 3.0e6. -/
theorem test_energy : energy 0x3F800000#32 0xC47A0000#32 0x447A0000#32 = 0x4A371B00#32 := by decide
/-- 95 section 3.3, first row. -/
theorem test_energy_1750 : energy 0#32 0#32 0xC8C35000#32 = 0x521502F9#32 := by decide
/-- C1. -/
theorem test_nop : nextIs (exec .nop enabled) (· == enabled) = true := by decide
/-- C4. -/
theorem test_seten_off :
    nextIs (exec (.seten false) { enabled with cnt := 300, s1 := Lanes.const 0x447A0000#32 }) (· == State.reset) = true := by decide
/-- C3: the same level. -/
theorem test_seten_same : nextIs (exec (.seten true) { enabled with cnt := 3 }) (fun t => t.cnt == 3) = true := by decide
/-- C5. -/
theorem test_rdreg_dtmft : nextIs (exec (.rdreg 4#4) State.reset) (fun t => t.rsp == some 0x00020000#32) = true := by decide
/-- C6: STATUS after RDREG 6 is 0x00002040. -/
theorem test_rdreg_reserved :
    nextIs (exec (.rdreg 6#4) State.reset) (fun t => t.rsp == some 0#32 && statusWord t == 0x00002040#32) = true := by decide
/-- R45: y = −17 reads 0xFFFFFFEF. -/
theorem test_rdreg_strength :
    readReg 8#4 { State.reset with y := Lanes.const (-17) } = some 0xFFFFFFEF#32 := by decide
/-- R40: a history 5, 10, 9 reads 0x000005A9. -/
theorem test_rdreg_hist :
    readReg 1#4 { State.reset with h := { h0 := 5#4, h1 := 10#4, h2 := 9#4 } } = some 0x000005A9#32 := by decide
/-- C10. -/
theorem test_clrst_ovr :
    nextIs (exec (.clrst 2#2) { State.reset with ovr := true, err := true, ecause := 2#4 })
      (fun t => !t.ovr && t.err && t.ecause == 2#4) = true := by decide
/-- C11. -/
theorem test_clrst_all :
    nextIs (exec (.clrst 3#2) { State.reset with ovr := true, err := true, ecause := 1#4 }) (· == State.reset) = true := by decide
/-- C8, through a step: an ILLEGAL word leaves STATUS 0x00001040. -/
theorem test_illegal_step :
    nextIs (step (due 0x50000000#32 State.reset)) (fun t => statusWord t == 0x00001040#32 && t.queue == []) = true := by decide

/-! ## The analysis (95 sections 3.4 to 3.10) -/

/-- 3.4: (1, 2, 3, 4, 5). -/
theorem test_normalize :
    normalize Config.tc { c0 := F32.ofInt 1, c1 := F32.ofInt 2, c2 := F32.ofInt 3, c3 := F32.ofInt 4, c4 := F32.ofInt 5 }
      = { c0 := -50, c1 := -25, c2 := 0, c3 := 25, c4 := 50 } := by decide +kernel
/-- 3.4: (5, 1, 1, 1, 1). -/
theorem test_normalize_truncates :
    normalize Config.tc { c0 := F32.ofInt 5, c1 := F32.ofInt 1, c2 := F32.ofInt 1, c3 := F32.ofInt 1, c4 := F32.ofInt 1 }
      = { c0 := 80, c1 := -19, c2 := -19, c3 := -19, c4 := -19 } := by decide +kernel
/-- 3.5: tdiv(−332, 16) = −20, not −21. -/
theorem test_smooth_truncates : smooth Config.tc (-12) (-40) = -20 := by decide
/-- 3.6, third row: the counter reaches its top and `det` asserts; s17 stays 0. -/
theorem test_presence_asserts :
    (let t := decide1750 { State.reset with c17 := 2, y := { Lanes.const 0 with c4 := 60 } }
     (t.c17, t.det, t.s17, t.lng)) = (3, true, 0, false) := by decide
/-- 3.6, eighth row: `det` and `lng` drop together. -/
theorem test_presence_drops :
    (let t := decide1750 { State.reset with c17 := 1, det := true, s17 := 44, lng := true, y := { Lanes.const 0 with c4 := 24 } }
     (t.c17, t.det, t.s17, t.lng)) = (0, false, 0, false) := by decide
/-- 3.7: 30 is not above 30. -/
theorem test_pattern_strict :
    tonePattern { State.reset with y := { c0 := 30, c1 := -20, c2 := 31, c3 := -20, c4 := 99 } } = 0b0100#4 := by decide
/-- 3.8, H1, second analysis: the push the debounce held back. -/
theorem test_history_push :
    nextIs (execAnalyze
        { pending { c0 := F32.ofInt 1, c1 := 0#32, c2 := F32.ofInt 1, c3 := 0#32, c4 := 0#32 } with
          y := { c0 := 46, c1 := -40, c2 := 46, c3 := -40, c4 := -12 }
          h := { h0 := 0b0101#4, h1 := 0b1010#4, h2 := 0#4 }, sincePush := 1 })
      (fun t => t.y == { c0 := 50, c1 := -40, c2 := 50, c3 := -40, c4 := -20 }
        && t.h == { h0 := 0b1010#4, h1 := 0#4, h2 := 0b0101#4 } && t.sinceValid == 0 && t.sincePush == 0) = true := by decide +kernel
/-- 3.10, A1: the first analysis of the 1750 Hz tone, as an AN step. -/
theorem test_analyze_step :
    nextIs (step (pending
        { c0 := 0x49742400#32, c1 := 0x35E4032C#32, c2 := 0x4A371B00#32, c3 := 0x381BDA7A#32, c4 := 0x521502F9#32 }))
      (fun t => t.y == { c0 := -5, c1 := -6, c2 := -5, c3 := -6, c4 := 24 } && !t.hv && t.anacnt == 1#32
        && dtmftWord t == 0x00020001#32) = true := by decide +kernel

/-! ## The assembler (R78, R79) -/

theorem test_parse_sample : parseLine "  SAMPLE #-1000  ; a comment" = some (.command (.sample (-1000))) := by decide
/-- R78: an operand out of its range is an assembly error. -/
theorem test_parse_out_of_range :
    (["CLRST 4", "CLRST 7", "CLRST -1", "SETEN 2", "RDREG 16", "SAMPLE 32768", "SAMPLE -32769", ".word 0x100000000"].map
      parseLine).all (· == none) = true := by decide
/-- R78: the greatest operand of each range, decimal and hexadecimal. -/
theorem test_parse_bounds :
    parseLine "CLRST #0x3" = some (.command (.clrst 3#2)) ∧ parseLine "RDREG 15" = some (.command (.rdreg 15#4)) ∧
      parseLine ".word 0xFFFFFFFF" = some (.word 0xFFFFFFFF#32) := by decide
theorem test_assemble_schedule :
    assemble [".lazy", "ENABLE", ".rep 2", ".analyze", "RDREG DTMFT", ".endr"] =
      some [{ event := .word 0x20000001#32, anFirst := false }, { event := .word 0x30000004#32, anFirst := true },
        { event := .word 0x30000004#32, anFirst := true }] := by decide

/-! ## Witnesses: the hypotheses of the statements can be met -/

theorem witness_DecodeEncodeRoundTrip : (Instr.sample (-32768)).wf = true := by decide
theorem witness_EncodeDecodeRoundTrip : decode 0x10007FFF#32 = .ok (.sample 32767) := rfl
theorem witness_OpcodeRowsDisjoint : rowClrst ∈ opRows ∧ rowClrst.admits 0x40000003#32 = true := by decide
theorem witness_IllegalWordsRecordErrorOne :
    (decode 0x50000000#32).isOk = false ∧ (decode 0x00000001#32).isOk = false ∧ (decode 0x10010000#32).isOk = false
      ∧ (decode 0x20000002#32).isOk = false ∧ (decode 0x30000010#32).isOk = false ∧ (decode 0x40000004#32).isOk = false := by
  decide
theorem witness_AssembledWordsDecode :
    parseLine "SAMPLE -32768" = some (.command (.sample (-32768))) ∧ parseLine ".tone 0,2, 3" = some (.tone 0 (some 2) 3) ∧
      readOperand "7" = some 7 ∧ readOperand "#-0x8000" = some (-32768) ∧ readOperand "0x100000000" = some (2 ^ 32) ∧
      readOperand "STATUS" = none ∧ readOperand "R7" = none ∧ (∀ p ∈ regNames, "R7" ≠ p.1) := by
  decide
/-- A command that goes before a pending block's analysis. -/
theorem witness_StepRunsDecodedCommand :
    configOk (due 0#32 lastSample).cfg = true ∧
      (due 0#32 lastSample).queue = { event := .word 0#32, anFirst := false } :: [] ∧
      ((due 0#32 lastSample).hv && false) = false ∧ decode 0#32 = .ok .nop := ⟨by decide, rfl, rfl, rfl⟩
theorem witness_StepRecordsIllegalWord :
    configOk (due 1#32 enabled).cfg = true ∧ (due 1#32 enabled).queue = { event := .word 1#32, anFirst := false } :: [] ∧
      ((due 1#32 enabled).hv && false) = false ∧ decode 1#32 = .error (.reservedBits 0#4) := ⟨by decide, rfl, rfl, rfl⟩
theorem witness_AnalyzeStepNeedsFullSlot :
    configOk (pending (Lanes.const 0#32)).cfg = true ∧ (pending (Lanes.const 0#32)).hv = true
      ∧ (pending (Lanes.const 0#32)).queue = [] := by decide
/-- The same with something presented that AN goes before. -/
theorem witness_AnalyzeStepNeedsFullSlot_marked :
    turn { pending (Lanes.const 0#32) with queue := [{ event := .word 0#32, anFirst := true }] } = .analyze := by decide
theorem witness_EitherAgentMayGoFirst : configOk (pending (Lanes.const 0#32)).cfg = true ∧ (pending (Lanes.const 0#32)).hv = true := by
  decide
theorem witness_QuiescentStepChangesNothing :
    configOk enabled.cfg = true ∧ enabled.hv = false ∧ enabled.queue = [] := by decide
/-- A reset while a block is pending, with a word presented beside it. -/
theorem witness_ResetStepRestoresResetState :
    configOk (pending (Lanes.const 0#32)).cfg = true ∧
      { pending (Lanes.const 0#32) with queue := [{ event := .reset (some 0#32), anFirst := false }] }.queue
        = { event := .reset (some 0#32), anFirst := false } :: [] ∧
      ((pending (Lanes.const 0#32)).hv && false) = false := ⟨by decide, rfl, rfl⟩
theorem witness_FailingConfigurationRefused :
    configOk { Config.tc with fs := { num := 3500, den := 1 } } = false := by decide
/-- Every constraint is checked: a configuration that fails it alone is refused. -/
theorem witness_ConfigurationConstraints :
    ([{ Config.tc with nch := 6 }, { Config.tc with nch := 3 }, { Config.tc with ndtmf := 5 }, { Config.tc with nBlock := 0 },
      { Config.tc with nBlock := 65537 }, { Config.tc with wHist := 12 }, { Config.tc with rowMask := 0#4 }, { Config.tc with rowMask := 0xF#4 },
      { Config.tc with validCodes := [0b0101#4, 0b0110#4, 0b1001#4, 0b1010#4, 0b0011#4] },
      { Config.tc with validCodes := [] }, { Config.tc with seq := { h0 := 0#4, h1 := 5#4, h2 := 9#4 } },
      { Config.tc with normScale := 2 ^ 24 + 1 }, { Config.tc with n1750 := 0 }, { Config.tc with noneTimeout := 65536 },
      { Config.tc with debounce := 0 }, { Config.tc with threshDtmf := 100 }, { Config.tc with thresh1750 := -101 },
      { Config.tc with coeffGiven := Lanes.const (some 0x40000001#32) },
      { Config.tc with fs := { num := 100000000, den := 1 } }].any configOk) = false := by decide
theorem witness_EveryStepKeepsConfiguration : ∃ t, step (due 0x20000001#32 State.reset) = .next t := ⟨_, rfl⟩
/-- R8's two rates. -/
theorem witness_SustainBlocksIsTheCeiling :
    configOk { Config.tc with fs := { num := 8000, den := 1 } } = true ∧ configOk Config.tc = true := by decide
theorem witness_CommandStepsKeepAnalysisState :
    turn (due 0x10000000#32 { lastSample with hv := true }) = .command 0x10000000#32 ∧
      ∃ t, step (due 0x10000000#32 { lastSample with hv := true }) = .next t := ⟨by decide, ⟨_, rfl⟩⟩
theorem witness_ResponseExactlyForRdreg :
    ∃ t, step (due 0x3000000C#32 enabled) = .next t ∧ t.rsp.isSome = true := ⟨_, rfl, rfl⟩
/-- Each event the error record knows: an ILLEGAL word, a reserved index, a clear. -/
theorem witness_ErrorRecordChangesOnly :
    (∃ t, step (due 1#32 enabled) = .next t ∧ t.ecause = 1#4) ∧ (∃ t, step (due 0x3000000D#32 enabled) = .next t ∧ t.ecause = 2#4)
      ∧ ∃ t, step (due 0x40000001#32 { enabled with err := true, ecause := 2#4 }) = .next t ∧ t.err = false :=
  ⟨⟨_, rfl, rfl⟩, ⟨_, rfl, rfl⟩, ⟨_, rfl, rfl⟩⟩
/-- The overrun flag set by a skipped block and cleared by CLRST 2. -/
theorem witness_OverrunFlagChangesOnly :
    nextIs (step (due 0x10000000#32 { lastSample with hv := true })) (fun t => t.ovr) = true ∧
      nextIs (step (due 0x40000002#32 { enabled with ovr := true })) (fun t => !t.ovr) = true := by decide
theorem witness_SampleUpdatesEveryChannel : enabled.en = true ∧ enabled.cnt + 1 ≠ enabled.cfg.nBlock := by decide
theorem witness_SampleCompletesBlock : lastSample.en = true ∧ lastSample.cnt + 1 = lastSample.cfg.nBlock := by decide
theorem exists_lanes (g : Fin 5 → F32) : ∃ l : Lanes F32, ∀ i, l.get i = g i := ⟨Lanes.ofFn g, Lanes.get_ofFn g⟩
/-- The energies the hypotheses of SampleCompletesBlock name exist for any state. -/
theorem witness_SampleCompletesBlock_energies (x : Int) (s : State) :
    ∃ n1 e : Lanes F32,
      (∀ i : Fin 5, n1.get i = F32.sub (F32.add (F32.ofInt x) (F32.mul (coeff s.cfg i) (s.s1.get i))) (s.s2.get i)) ∧
      ∀ i : Fin 5, e.get i =
        if i.val < s.cfg.nch then
          F32.sub (F32.add (F32.mul (n1.get i) (n1.get i)) (F32.mul (s.s1.get i) (s.s1.get i)))
            (F32.mul (F32.mul (coeff s.cfg i) (n1.get i)) (s.s1.get i))
        else 0#32 := by
  obtain ⟨n1, h1⟩ := exists_lanes fun i =>
    F32.sub (F32.add (F32.ofInt x) (F32.mul (coeff s.cfg i) (s.s1.get i))) (s.s2.get i)
  obtain ⟨e, h2⟩ := exists_lanes fun i =>
    if i.val < s.cfg.nch then
      F32.sub (F32.add (F32.mul (n1.get i) (n1.get i)) (F32.mul (s.s1.get i) (s.s1.get i)))
        (F32.mul (F32.mul (coeff s.cfg i) (n1.get i)) (s.s1.get i))
    else 0#32
  exact ⟨n1, e, h1, h2⟩
theorem witness_SampleConversionExact : -(2 ^ 24 : Int) ≤ -(2 ^ 24) ∧ (-(2 ^ 24) : Int) ≤ 2 ^ 24 := by decide
/-- Two states that agree in channel 2 and differ in channel 0. -/
theorem witness_ChannelsAreIndependent :
    let u : State := { enabled with s1 := { Lanes.const 0#32 with c0 := 0x447A0000#32 } }
    enabled.cfg = u.cfg ∧ enabled.en = u.en ∧ enabled.cnt = u.cnt ∧ enabled.hv = u.hv ∧ enabled.s1.get 2 = u.s1.get 2
      ∧ enabled.s2.get 2 = u.s2.get 2 ∧ enabled.he.get 2 = u.he.get 2 ∧ enabled.s1 ≠ u.s1 := by decide
/-- A sum, a difference, a product and a quotient of finite values, all below the overflow threshold; and the greatest finite
value with what comes just below half its last place, and with that half, which reaches the threshold. -/
theorem witness_rounding :
    F32.isFinite 0x3FDDB3D7#32 = true ∧ F32.isFinite 0x33800001#32 = true ∧ F32.scaled 0x33800001#32 ≠ 0 ∧
      BelowOverflow (F32.scaled 0x3FDDB3D7#32 - F32.scaled 0x33800001#32) 1 ∧
      BelowOverflow (F32.scaled 0x3FDDB3D7#32 * F32.scaled 0x33800001#32) (2 ^ 149) ∧
      BelowOverflow (F32.scaled 0x3FDDB3D7#32 * 2 ^ 149 * (F32.scaled 0x33800001#32).sign) (F32.scaled 0x33800001#32).natAbs ∧
      BelowOverflow (F32.scaled 0x7F7FFFFF#32 + F32.scaled 0x72FFFFFF#32) 1 ∧
      ¬ BelowOverflow (F32.scaled 0x7F7FFFFF#32 + F32.scaled 0x73000000#32) 1 := by decide
/-- R13: just below the overflow threshold a sum rounds to the greatest finite value. -/
theorem test_add_below_overflow : F32.add 0x7F7FFFFF#32 0x72FFFFFF#32 = 0x7F7FFFFF#32 := by decide
/-- A value on each side of zero. -/
theorem witness_TruncIntDiscardsFraction :
    F32.isFinite 0x3FE66666#32 = true ∧ F32.scaled 0x3FE66666#32 > 0 ∧ F32.isFinite 0xBFE66666#32 = true ∧
      F32.scaled 0xBFE66666#32 < 0 := by decide
theorem witness_DerivedCoefficientIsNearest :
    0 < Config.tc.fs.den ∧ freqOk Config.tc.fs Config.tc.f.c0 = true := by decide
theorem witness_TestConfigurationCoefficientsAreNearest : F32.isFinite 0x3FDDB3D7#32 = true := by decide
/-- Both clauses: the level `en` has, and a change. -/
theorem witness_SetenActsOnChangeOnly : (true = enabled.en) ∧ (false ≠ enabled.en) := by decide
/-- A state that runs and meets R48 items 1 to 8, with strengths, a symbol and a history. -/
def running : State :=
  { enabled with
    cnt := 799, y := { c0 := 39, c1 := -25, c2 := 39, c3 := -25, c4 := -25 }, sym := 0b0101#4
    h := { h0 := 0#4, h1 := 0#4, h2 := 0b0101#4 }, sincePush := 0, anacnt := 3 }
theorem witness_Inv : Inv running :=
  ⟨by decide, by decide, by decide, by decide, by decide, by decide, by decide, by decide⟩
theorem witness_RdregRespondsWithRegister :
    configOk running.cfg = true ∧ Inv running ∧
      ∃ ans : Word → State, ∀ v, ans v = { running with rsp := some v, responses := running.responses ++ [v] } :=
  ⟨by decide, witness_Inv, ⟨_, fun _ => rfl⟩⟩
theorem witness_RdregReserved : 15#4 ∈ [6#4, 7#4, 13#4, 14#4, 15#4] ∧ 12#4 ∉ [6#4, 7#4, 13#4, 14#4, 15#4] := by decide
/-- Equal energies, and energies that are not. -/
theorem witness_EqualEnergiesNormalizeToZero :
    (∀ i j, F32.scaled ((Lanes.const (F32.ofInt 3)).get i) = F32.scaled ((Lanes.const (F32.ofInt 3)).get j)) ∧
      ∀ i, F32.isFinite ((Lanes.const (F32.ofInt 3)).get i) = true := by decide
/-- R94's example (1, 0, 1, 0, 0): channel 0 is a greatest and channel 1 a least energy. -/
theorem witness_NormalizeFormula :
    let e : Lanes F32 := { c0 := F32.ofInt 1, c1 := 0#32, c2 := F32.ofInt 1, c3 := 0#32, c4 := 0#32 }
    Config.tc.nch = 5 ∧ (∀ i, F32.isFinite (e.get i) = true) ∧ (∀ i, F32.scaled (e.get i) ≤ F32.scaled (e.get 0)) ∧
      (∀ i, F32.scaled (e.get 1) ≤ F32.scaled (e.get i)) ∧ F32.scaled (e.get 1) < F32.scaled (e.get 0) := by decide
/-- N1750 = 1, for the last clause of the hysteresis statement. -/
theorem witness_PresenceDecisionHasHysteresis :
    configOk { Config.tc with n1750 := 1 } = true ∧ (State.resetOf { Config.tc with n1750 := 1 }).c17 ≤ 1 := by decide
theorem witness_InvariantKeptByEveryStep : Inv running ∧ ∃ t, step running = .next t := ⟨witness_Inv, ⟨_, rfl⟩⟩
theorem witness_AnyBoundedNormalizeKeepsInvariant :
    configOk running.cfg = true ∧ Inv running ∧
      ∀ i, -(running.cfg.normScale : Int) ≤ (Lanes.const (100 : Int)).get i ∧ (Lanes.const (100 : Int)).get i ≤ running.cfg.normScale :=
  ⟨by decide, witness_Inv, by decide⟩
/-- The source's weights, for the envelope and its decay. -/
theorem witness_StrengthDecaysToZero : configOk Config.tc = true ∧ Config.tc.wHist < 2 ^ Config.tc.wShift := by decide
/-- The taps of TC after `SAMPLE 1000` (R80's example). -/
theorem witness_TapsStayRecursionOutputsAndFinite :
    let s : State := { enabled with s1 := Lanes.const 0x447A0000#32, cnt := 1 }
    s.cfg.nBlock ≤ 800 ∧ CountInv s ∧ RecursionInv s ∧ ∃ t, step (due 0x100003E8#32 s) = .next t :=
  ⟨by decide, by decide, ⟨⟨[1000], by decide⟩, by decide⟩, ⟨_, rfl⟩⟩
theorem witness_EveryRunStaysFinite : State.reset.cfg.nBlock ≤ 800 ∧ Reachable (present [{ event := .word 0x20000001#32, anFirst := true }] State.reset) :=
  ⟨by decide, .more _ _ (.init _ (by decide))⟩
/-- A SEQ with a repeated entry is no configuration error (R48 item 8). -/
theorem witness_RepeatedEntrySequenceNeverMatches :
    let s : State := { running with cfg := { Config.tc with seq := { h0 := 5#4, h1 := 5#4, h2 := 9#4 } } }
    configOk s.cfg = true ∧ Inv s ∧ s.cfg.seq.h0 = s.cfg.seq.h1 :=
  ⟨by decide, ⟨by decide, by decide, by decide, by decide, by decide, by decide, by decide, by decide⟩, rfl⟩
/-- A state after 50 analyses, with presence, a full history and a match. -/
theorem witness_AnalysisCountsKeptByEveryStep :
    CountedInv 50 { running with
      hv := true, c17 := 3, det := true, s17 := 44, lng := true, h := Config.tc.seq, sincePush := 2, seqMatch := true } :=
  ⟨by decide, by decide, by decide, by decide, by decide, by decide, by decide, by decide⟩

/-- An instance with blocks of two samples and counters of 1, in which each output comes at the least number of analyses. -/
def quick : Config :=
  { Config.tc with
    nBlock := 2, wHist := 0, wNew := 16, fs := { num := 1, den := 5 }
    f0 := { num := 1, den := 100 }, f1 := { num := 1, den := 100 }, f2 := { num := 1, den := 100 }
    f3 := { num := 1, den := 100 }, f4 := { num := 1, den := 100 }
    coeffGiven := { c0 := some 0x3F800000#32, c1 := some 0xBF800000#32, c2 := some 0x3F800000#32, c3 := some 0xBF800000#32,
                    c4 := some 0#32 }
    thresh1750 := -1, n1750 := 1, debounce := 1, seq := { h0 := 0b0101#4, h1 := 0b1010#4, h2 := 0b0101#4 } }

/-- SETEN 1 and three blocks, whose energies are 2A^2 plus or minus A^2 by the sign of the coefficient times that of the samples'
product; every pending block is analysed before the next word. -/
def quickStart : State :=
  present ([0x20000001#32, 0x100003E8#32, 0x100003E8#32, 0x100003E8#32, 0x1000FC18#32, 0x100003E8#32, 0x100003E8#32].map
    fun w => { event := .word w, anFirst := true }) (State.resetOf quick)

/-- The number of analyses and the three outputs after some steps of that run. -/
def quickOutputs (k : Nat) : Option (Nat × Bool × Bool × Bool) :=
  (runFor k (0, quickStart)).map fun p => (p.1, det1750Out p.2, det1750LongOut p.2, dtmfMatchOut p.2)

theorem test_quick_first : quickOutputs 4 = some (1, true, false, false) := by decide +kernel
theorem test_quick_second : quickOutputs 7 = some (2, true, true, false) := by decide +kernel
theorem test_quick_third : quickOutputs 10 = some (3, true, true, true) := by decide +kernel

theorem quick_reached {k n : Nat} {d l m : Bool} (e : quickOutputs k = some (n, d, l, m)) :
    ∃ s, ReachableAfter n s ∧ det1750Out s = d ∧ det1750LongOut s = l ∧ dtmfMatchOut s = m := by
  simp only [quickOutputs, Option.map_eq_some_iff, Prod.mk.injEq] at e
  obtain ⟨⟨a, s⟩, h, rfl, rfl, rfl, rfl⟩ := e
  exact ⟨s, ReachableAfter.of_runFor k (.more _ _ _ (.init quick (by decide))) h, rfl, rfl, rfl⟩

/-- Each clause at its bound: `N1750 = 1`, `N1750 + SUSTAIN_BLOCKS = 2`, `1 + 2 DEBOUNCE = 3`, and reset. -/
theorem witness_OutputsNeedEnoughAnalyses :
    (∃ s, ReachableAfter 1 s ∧ det1750Out s = true) ∧ (∃ s, ReachableAfter 2 s ∧ det1750LongOut s = true) ∧
      (∃ s, ReachableAfter 3 s ∧ dtmfMatchOut s = true) ∧ ReachableAfter 0 State.reset := by
  obtain ⟨s1, r1, h1, -, -⟩ := quick_reached test_quick_first
  obtain ⟨s2, r2, -, h2, -⟩ := quick_reached test_quick_second
  obtain ⟨s3, r3, -, -, h3⟩ := quick_reached test_quick_third
  exact ⟨⟨s1, r1, h1⟩, ⟨s2, r2, h2⟩, ⟨s3, r3, h3⟩, .init _ (by decide)⟩

end Sys2Proof.Tests
end

section
/-! PROOF. The configuration check in the rationals (R7 to R9), SUSTAIN_BLOCKS (R8), and the refusal of a configuration that
fails the check. -/

namespace Sys2Proof.Machine

/-! Each part of the check as the constraint it stands for. -/

theorem sizesOk_iff (c : Config) :
    sizesOk c = true ↔ (1 ≤ c.nch ∧ c.nch ≤ 5 ∧ c.ndtmf ≤ 4 ∧ c.ndtmf ≤ c.nch) ∧
      (1 ≤ c.nBlock ∧ c.nBlock ≤ 65536) ∧ c.wHist + c.wNew ≤ 2 ^ c.wShift := by
  simp [sizesOk, and_assoc]

/-- A fraction of naturals with a positive denominator is positive when its numerator is. -/
theorem natCast_div_pos_iff {n d : Nat} (hd : 0 < d) : (0 : ℚ) < (n : ℚ) / d ↔ 0 < n := by
  rw [div_pos_iff_of_pos_right (by exact_mod_cast hd)]
  exact Nat.cast_pos

theorem rateOk_iff (c : Config) :
    rateOk c = true ↔ 0 < c.fs.den ∧ (0 : ℚ) < (c.fs.num : ℚ) / c.fs.den := by
  simp only [rateOk, Bool.and_eq_true, decide_eq_true_eq, and_comm (a := 0 < c.fs.num)]
  exact and_congr_right fun hd => (natCast_div_pos_iff hd).symm

/-- R9 (a)'s comparison by cross multiplication is the one of the fractions. -/
theorem two_mul_lt_iff_div_lt_half {f fd s sd : Nat} (hf : 0 < fd) (hs : 0 < sd) :
    2 * f * sd < s * fd ↔ (f : ℚ) / fd < (s : ℚ) / sd / 2 := by
  rw [div_div, div_lt_div_iff₀ (by positivity) (by positivity), mul_rotate 2 f sd, ← mul_assoc]
  norm_cast

theorem freqOk_iff {fs f : Ratio} (hs : 0 < fs.den) :
    freqOk fs f = true ↔ 0 < f.den ∧ (0 : ℚ) < (f.num : ℚ) / f.den ∧
      (f.num : ℚ) / f.den < ((fs.num : ℚ) / fs.den) / 2 := by
  simp only [freqOk, Bool.and_eq_true, decide_eq_true_eq]
  rw [and_comm (a := 0 < f.num), and_assoc]
  exact and_congr_right fun hf => and_congr (natCast_div_pos_iff hf).symm (two_mul_lt_iff_div_lt_half hf hs)

/-- The sample rate and the five frequencies together: only a positive denominator of FS makes R9 (a) a comparison of fractions. -/
theorem ratesOk_iff (c : Config) :
    (rateOk c = true ∧ c.f.all (freqOk c.fs) = true) ↔
      (0 < c.fs.den ∧ (0 : ℚ) < (c.fs.num : ℚ) / c.fs.den) ∧
        ∀ i, 0 < (c.f.get i).den ∧ (0 : ℚ) < ((c.f.get i).num : ℚ) / (c.f.get i).den
          ∧ ((c.f.get i).num : ℚ) / (c.f.get i).den < ((c.fs.num : ℚ) / c.fs.den) / 2 := by
  rw [rateOk_iff, Lanes.all_iff]
  exact and_congr_right fun ⟨hs, _⟩ => forall_congr' fun i => freqOk_iff hs

theorem rowMaskOk_iff (c : Config) :
    rowMaskOk c = true ↔ (∃ k : Fin 4, c.rowMask.getLsbD k = true) ∧ ∃ k : Fin 4, c.rowMask.getLsbD k = false := by
  have h : ∀ m : BitVec 4, (m != 0#4 && m != 0xF#4) = true ↔
      (∃ k : Fin 4, m.getLsbD k = true) ∧ ∃ k : Fin 4, m.getLsbD k = false := by decide
  exact h c.rowMask

/-- A pattern has one bit set when one position holds a bit and no other does. -/
theorem ones_eq_one_iff : ∀ p : Symbol, ones p = 1 ↔ ∃! k : Fin 4, p.getLsbD k = true := by
  unfold ExistsUnique
  decide

theorem codeOk_iff (mask p : Symbol) :
    codeOk mask p = true ↔ (∃! k : Fin 4, p.getLsbD k = true ∧ mask.getLsbD k = true) ∧
      ∃! k : Fin 4, p.getLsbD k = true ∧ mask.getLsbD k = false := by
  simp [codeOk, ones_eq_one_iff]

theorem validOk_iff (c : Config) :
    validOk c = true ↔ (∀ p ∈ c.validCodes, (∃! k : Fin 4, p.getLsbD k = true ∧ c.rowMask.getLsbD k = true)
        ∧ ∃! k : Fin 4, p.getLsbD k = true ∧ c.rowMask.getLsbD k = false) ∧ c.validCodes ≠ [] := by
  simp only [validOk, Bool.and_eq_true, List.all_eq_true, codeOk_iff, Bool.not_eq_true', List.isEmpty_eq_false_iff]

theorem seqOk_iff (c : Config) :
    seqOk c = true ↔ c.seq.h0 ∈ c.validCodes ∧ c.seq.h1 ∈ c.validCodes ∧ c.seq.h2 ∈ c.validCodes := by
  simp [seqOk, isValid, and_assoc]

theorem rangesOk_iff (c : Config) :
    rangesOk c = true ↔ (1 ≤ c.normScale ∧ c.normScale ≤ 2 ^ 24) ∧ (1 ≤ c.n1750 ∧ c.n1750 ≤ 255) ∧
      (1 ≤ c.noneTimeout ∧ c.noneTimeout ≤ 65535) ∧ (1 ≤ c.debounce ∧ c.debounce ≤ 65535) ∧
        (1 ≤ sustainBlocks c ∧ sustainBlocks c ≤ 65535) := by
  simp [rangesOk, and_assoc]

theorem threshOk_iff (c : Config) (t : Int) :
    threshOk c t = true ↔ -(c.normScale : Int) ≤ t ∧ t < c.normScale := by
  simp [threshOk]

end Sys2Proof.Machine

namespace Sys2Proof.F32

theorem natAbs_scaled (a : F32) : (scaled a).natAbs = mag a := by
  unfold scaled
  split <;> simp

theorem one_eq : one = 2 ^ 149 := Nat.one_shiftLeft 149

end Sys2Proof.F32

namespace Sys2Proof.Machine

theorem givenCoeffsOk_iff (l : Lanes (Option F32)) :
    l.all givenCoeffOk = true ↔ ∀ (i : Fin 5) (w : F32), l.get i = some w →
      F32.isFinite w = true ∧ (F32.scaled w).natAbs ≤ 2 * 2 ^ 149 := by
  rw [Lanes.all_iff]
  refine forall_congr' fun i => ?_
  cases l.get i with
  | none => simp [givenCoeffOk]
  | some w => simp [givenCoeffOk, F32.natAbs_scaled, F32.one_eq]

/-- The check is its ten parts. -/
theorem configOk_iff (c : Config) :
    configOk c = true ↔ sizesOk c = true ∧ (rateOk c = true ∧ c.f.all (freqOk c.fs) = true) ∧ rowMaskOk c = true ∧
      validOk c = true ∧ seqOk c = true ∧ rangesOk c = true ∧ threshOk c c.threshDtmf = true ∧
        threshOk c c.thresh1750 = true ∧ c.coeffGiven.all givenCoeffOk = true := by
  simp [configOk, and_assoc]

/-- Settles O17: each part of the check is the constraint it stands for. -/
theorem configurationConstraints : Obligations.ConfigurationConstraints := by
  intro c
  rw [configOk_iff, sizesOk_iff, ratesOk_iff, rowMaskOk_iff, validOk_iff, seqOk_iff, rangesOk_iff, threshOk_iff,
    threshOk_iff, givenCoeffsOk_iff]
  simp only [and_assoc]

/-- Settles O16: the one refusal of `step` is that of a configuration that fails the check. -/
theorem failingConfigurationRefused : Obligations.FailingConfigurationRefused :=
  fun _ h => step_refused h

/-! SUSTAIN_BLOCKS. -/

/-- Rounding a quotient of naturals up in the naturals is its ceiling in the rationals. -/
theorem natCast_add_pred_div (n : Nat) {d : Nat} (hd : 0 < d) : (((n + (d - 1)) / d : Nat) : ℤ) = ⌈(n : ℚ) / d⌉ := by
  have hd' : (0 : ℚ) < d := by exact_mod_cast hd
  have hle : (n + (d - 1)) / d * d < n + d := by
    have := Nat.div_mul_le_self (n + (d - 1)) d
    omega
  have hlt : n ≤ (n + (d - 1)) / d * d := by
    have := Nat.lt_div_mul_add (a := n + (d - 1)) hd
    omega
  refine (Int.ceil_eq_iff.mpr ⟨?_, ?_⟩).symm
  · rw [lt_div_iff₀ hd', sub_mul, one_mul, sub_lt_iff_lt_add]
    exact_mod_cast hle
  · rw [div_le_iff₀ hd']
    exact_mod_cast hlt

/-- R8 over the rationals. -/
theorem sustainBlocks_eq_ceil {c : Config} (hd : 0 < c.fs.den) (hb : 1 ≤ c.nBlock) :
    (sustainBlocks c : ℤ) = ⌈(c.sustainS : ℚ) * ((c.fs.num : ℚ) / c.fs.den) / (c.nBlock : ℚ)⌉ := by
  have h := natCast_add_pred_div (c.sustainS * c.fs.num) (Nat.mul_pos hd hb)
  rw [Nat.cast_mul, Nat.cast_mul, ← div_div, mul_div_assoc] at h
  exact h

/-- Settles O19: R8's quotient is rounded up over a common denominator; the range is part of the check. -/
theorem sustainBlocksIsTheCeiling : Obligations.SustainBlocksIsTheCeiling := by
  intro c ok
  obtain ⟨hsizes, ⟨hrate, -⟩, -, -, -, hranges, -⟩ := (configOk_iff c).mp ok
  obtain ⟨-, ⟨hblock, -⟩, -⟩ := (sizesOk_iff c).mp hsizes
  obtain ⟨-, -, -, -, hlow, hhigh⟩ := (rangesOk_iff c).mp hranges
  have hceil := sustainBlocks_eq_ceil ((rateOk_iff c).mp hrate).1 hblock
  refine ⟨hceil, hlow, hhigh, fun h5 h800 => ⟨fun hfs => ?_, fun hfs => ?_⟩⟩
  all_goals
    rw [h5, h800, hfs] at hceil
    norm_num at hceil
    exact_mod_cast hceil

/-! `trunc_int`. -/

/-- The value of a finite pattern as a fraction over the units of 2^-149. -/
theorem realOf_eq_ratCast (q : F32) : realOf q = (((F32.scaled q : ℤ) / (F32.one : ℕ) : ℚ) : ℝ) := by
  rw [realOf, F32.one_eq, Rat.cast_div, Rat.cast_intCast, Rat.cast_natCast, Nat.cast_pow, Nat.cast_ofNat]

theorem realOf_nonneg_iff (q : F32) : 0 ≤ realOf q ↔ 0 ≤ F32.scaled q := by
  rw [realOf, le_div_iff₀ (by positivity), zero_mul, Int.cast_nonneg_iff]

theorem floor_realOf (q : F32) : ⌊realOf q⌋ = F32.scaled q / F32.one := by
  rw [realOf_eq_ratCast, Rat.floor_cast, Rat.floor_intCast_div_natCast]

theorem ceil_realOf (q : F32) : ⌈realOf q⌉ = -(-F32.scaled q / F32.one) := by
  rw [realOf_eq_ratCast, Rat.ceil_cast, Rat.ceil_intCast_div_natCast]

theorem truncInt_of_finite {q : F32} (h : F32.isFinite q = true) : F32.truncInt q = (F32.scaled q).tdiv F32.one := by
  simp [F32.truncInt, h]

/-- Settles O33: division that truncates is the floor from 0 up and, by changing the dividend's sign, the ceiling below 0. -/
theorem truncIntDiscardsFraction : Obligations.TruncIntDiscardsFraction := by
  intro q hq
  rw [truncInt_of_finite hq]
  constructor
  · intro h
    rw [floor_realOf, Int.tdiv_eq_ediv_of_nonneg ((realOf_nonneg_iff q).mp h)]
  · intro h
    have hneg : 0 ≤ -F32.scaled q := by
      have := mt (realOf_nonneg_iff q).mpr (not_le.mpr h)
      omega
    rw [ceil_realOf, ← Int.tdiv_eq_ediv_of_nonneg hneg, Int.neg_tdiv, neg_neg]

end Sys2Proof.Machine
end

section
/-! PROOF. The binary32 operations round to nearest, ties to even (R13). A magnitude is rounded on the grid of multiples of `2 ^ k`
units that the spacing exponent k names: on that grid `rne` is nearest, and a finite value between two grid points lies below
`2 ^ 23` grid steps, where the exact result does not. -/

namespace Sys2Proof.F32

/-! The fields of a value. -/

theorem expo_eq (a : F32) : expo a = a.toNat / 2 ^ 23 % 2 ^ 8 := by
  simp [expo, Nat.shiftRight_eq_div_pow]

theorem frac_eq (a : F32) : frac a = a.toNat % 2 ^ 23 := by
  simp [frac]

theorem mag_of_expo_zero {a : F32} (h : expo a = 0) : mag a = frac a := if_pos h

theorem mag_of_expo_succ {a : F32} {j : Nat} (h : expo a = j + 1) : mag a = (2 ^ 23 + frac a) * 2 ^ j := by
  simp only [mag, h, Nat.add_one_ne_zero, if_false, Nat.add_sub_cancel]

/-- A value's magnitude is a significand below `2 ^ 24` at a power of two. -/
theorem exists_mag_eq (w : F32) : ∃ f e : Nat, f < 2 ^ 24 ∧ mag w = f * 2 ^ e := by
  have hf : frac w < 2 ^ 23 := by
    rw [frac_eq]
    exact Nat.mod_lt _ (by decide)
  cases h : expo w with
  | zero => exact ⟨frac w, 0, by omega, by rw [mag_of_expo_zero h, pow_zero, mul_one]⟩
  | succ j => exact ⟨2 ^ 23 + frac w, j, by omega, mag_of_expo_succ h⟩

/-! A magnitude's bits with a sign. -/

theorem toNat_withSign (neg : Bool) {b : Nat} (hb : b < 2 ^ 31) : (withSign neg b).toNat = neg.toNat * 2 ^ 31 + b := by
  rw [withSign, BitVec.toNat_append, BitVec.toNat_ofNat, Nat.mod_eq_of_lt hb, ← Nat.shiftLeft_add_eq_or_of_lt hb,
    BitVec.toNat_ofBool, Nat.shiftLeft_eq]

theorem sign_withSign (neg : Bool) (b : Nat) : sign (withSign neg b) = neg := by
  rw [sign, withSign, BitVec.getLsbD_append]
  simp

theorem getLsbD_zero_withSign (neg : Bool) {b : Nat} (hb : b % 2 = 0) : (withSign neg b).getLsbD 0 = false := by
  rw [withSign, BitVec.getLsbD_append, if_pos (by decide), BitVec.getLsbD_ofNat]
  simp [hb]

theorem expo_withSign (neg : Bool) {b : Nat} (hb : b < infBits) : expo (withSign neg b) = b / 2 ^ 23 := by
  rw [infBits] at hb
  rw [expo_eq, toNat_withSign neg (by omega)]
  omega

theorem frac_withSign (neg : Bool) {b : Nat} (hb : b < infBits) : frac (withSign neg b) = b % 2 ^ 23 := by
  rw [infBits] at hb
  rw [frac_eq, toNat_withSign neg (by omega)]
  omega

theorem isFinite_withSign (neg : Bool) {b : Nat} (hb : b < infBits) : isFinite (withSign neg b) = true := by
  rw [isFinite, expo_withSign neg hb, bne_iff_ne]
  rw [infBits] at hb
  omega

/-- The fields that `roundMag` writes for a significand and a spacing exponent have the value `q * 2 ^ k`, whether the significand is
subnormal, normal, or carries into the exponent. -/
theorem mag_withSign (neg : Bool) {k q : Nat} (hb : k * 2 ^ 23 + q < infBits) (hq : q ≤ 2 ^ 24) (hk : k = 0 ∨ 2 ^ 23 ≤ q) :
    mag (withSign neg (k * 2 ^ 23 + q)) = q * 2 ^ k := by
  have hexpo := expo_withSign neg hb
  have hfrac := frac_withSign neg hb
  rcases lt_or_ge q (2 ^ 23) with hsub | hnormal
  · obtain rfl : k = 0 := by omega
    rw [mag_of_expo_zero (by omega), hfrac]
    omega
  rcases lt_or_eq_of_le hq with hq | rfl
  · rw [mag_of_expo_succ (j := k) (by omega), hfrac, show 2 ^ 23 + (k * 2 ^ 23 + q) % 2 ^ 23 = q by omega]
  · rw [mag_of_expo_succ (j := k + 1) (by omega), hfrac, show 2 ^ 23 + (k * 2 ^ 23 + 2 ^ 24) % 2 ^ 23 = 2 ^ 23 by omega]
    ring

/-! A number with a sign. -/

/-- A number, or its negative where the sign bit says so: how `scaled` reads a magnitude. -/
def signed (neg : Bool) (m : Int) : Int := if neg then -m else m

@[simp] theorem signed_true (m : Int) : signed true m = -m := rfl

@[simp] theorem signed_false (m : Int) : signed false m = m := rfl

theorem scaled_eq_signed (a : F32) : scaled a = signed (sign a) (mag a) := rfl

theorem signed_zero (neg : Bool) : signed neg 0 = 0 := by cases neg <;> rfl

@[simp] theorem signed_signed (neg : Bool) (m : Int) : signed neg (signed neg m) = m := by cases neg <;> simp

@[simp] theorem natAbs_signed (neg : Bool) (m : Int) : (signed neg m).natAbs = m.natAbs := by cases neg <;> simp

theorem signed_natAbs (v : Int) : signed (decide (v < 0)) v.natAbs = v := by
  rcases lt_or_ge v 0 with h | h
  · rw [decide_eq_true h, signed_true]
    omega
  · rw [decide_eq_false (not_lt.mpr h), signed_false]
    omega

theorem signed_mul_signed (s t : Bool) (m n : Int) : signed s m * signed t n = signed (s != t) (m * n) := by
  cases s <;> cases t <;> simp

/-- The distance from a number with a sign is the one from the number itself, the sign put to the other side. -/
theorem natAbs_mul_sub_signed (neg : Bool) (x d n : Int) :
    (x * d - signed neg n).natAbs = (signed neg x * d - n).natAbs := by
  cases neg with
  | false => rfl
  | true =>
    rw [signed_true, signed_true, neg_mul]
    omega

/-! Rounding a fraction to an integer. -/

/-- `rne` is within half a unit of the fraction, and is even when it is just half a unit away. -/
theorem rne_within_half (n : Nat) {d : Nat} (hd : 0 < d) :
    2 * ((rne n d * d : Int) - n).natAbs ≤ d ∧ (2 * ((rne n d * d : Int) - n).natAbs = d → rne n d % 2 = 0) := by
  have hn := Nat.div_add_mod n d
  have hr : n % d < d := Nat.mod_lt n hd
  have hsucc : d * (n / d + 1) = d * (n / d) + d := Nat.mul_succ d (n / d)
  rw [← Nat.cast_mul, Nat.mul_comm (rne n d)]
  simp only [rne]
  split
  · omega
  split
  · rw [hsucc]; omega
  split
  · omega
  · rw [hsucc]; omega

/-- An integer within half a unit of a fraction is nearest to it, and another is as near only when that half is reached. -/
theorem nearest_of_within_half {q n u : Int} {d : Nat} (h : 2 * (q * d - n).natAbs ≤ d) (hu : u ≠ q) :
    (q * d - n).natAbs ≤ (u * d - n).natAbs ∧ ((q * d - n).natAbs = (u * d - n).natAbs → 2 * (q * d - n).natAbs = d) := by
  have hstep : d ≤ (u * d - q * d).natAbs := by
    rw [← sub_mul, Int.natAbs_mul, Int.natAbs_natCast]
    exact Nat.le_mul_of_pos_left d (Int.natAbs_pos.mpr (sub_ne_zero.mpr hu))
  omega

/-- `rne` is nearest to the fraction among the integers, and even where another is as near. -/
theorem rne_nearest (n : Nat) {d : Nat} (hd : 0 < d) (u : Int) :
    ((rne n d * d : Int) - n).natAbs ≤ (u * d - n).natAbs ∧
      (((rne n d * d : Int) - n).natAbs = (u * d - n).natAbs → u ≠ rne n d → rne n d % 2 = 0) := by
  obtain ⟨hhalf, heven⟩ := rne_within_half n hd
  by_cases hu : u = rne n d
  · exact ⟨by rw [hu], fun _ hne => absurd hu hne⟩
  · obtain ⟨hle, htie⟩ := nearest_of_within_half hhalf hu
    exact ⟨hle, fun heq _ => heven (htie heq)⟩

/-! The spacing exponent. -/

theorem lt_of_spacing (n : Nat) {d : Nat} (hd : 0 < d) : n < 2 ^ 24 * (d * 2 ^ spacing n d) := by
  have hlog : n / d < 2 ^ (24 + spacing n d) :=
    lt_of_lt_of_le Nat.lt_log2_self (Nat.pow_le_pow_right (by decide) (by unfold spacing; omega))
  rw [Nat.div_lt_iff_lt_mul hd, pow_add] at hlog
  rwa [mul_left_comm, mul_comm d]

theorem le_of_spacing_pos {n d : Nat} (hd : 0 < d) (hk : 0 < spacing n d) : 2 ^ 23 * (d * 2 ^ spacing n d) ≤ n := by
  have hlog : 2 ^ (23 + spacing n d) ≤ n / d := by
    unfold spacing at hk ⊢
    have hne : n / d ≠ 0 := by rintro h; simp [h] at hk
    rw [show 23 + (Nat.log2 (n / d) - 23) = Nat.log2 (n / d) by omega]
    exact Nat.log2_self_le hne
  rw [Nat.le_div_iff_mul_le hd, pow_add] at hlog
  rwa [mul_left_comm, mul_comm d]

/-- Below the overflow threshold the spacing is at most that of the greatest finite value. -/
theorem spacing_le {n d : Nat} (hd : 0 < d) (hn : n < (2 ^ 25 - 1) * 2 ^ 252 * d) : spacing n d ≤ 253 := by
  by_contra hk
  have hpow : 2 ^ 254 ≤ 2 ^ spacing n d := Nat.pow_le_pow_right (by decide) (by omega)
  have hle := le_of_spacing_pos hd (n := n) (by omega)
  have hmul : 2 ^ 23 * (2 ^ 254 * d) ≤ 2 ^ 23 * (d * 2 ^ spacing n d) := by
    rw [mul_comm d]
    exact Nat.mul_le_mul_left _ (Nat.mul_le_mul_right d hpow)
  omega

/-! The significand and the bits `roundMag` computes. -/

/-- The significand before it is written into the fields: the exact result in steps of the grid, rounded. -/
def significand (n d : Nat) : Nat := rne n (d * 2 ^ spacing n d)

theorem roundMag_eq (n d : Nat) : roundMag n d = min (spacing n d * 2 ^ 23 + significand n d) infBits := by
  simp only [roundMag, significand, Nat.shiftLeft_eq]

theorem grid_pos {n d : Nat} (hd : 0 < d) : 0 < d * 2 ^ spacing n d := Nat.mul_pos hd (Nat.two_pow_pos _)

theorem significand_le (n : Nat) {d : Nat} (hd : 0 < d) : significand n d ≤ 2 ^ 24 := by
  have hhalf := (rne_within_half n (grid_pos (n := n) hd)).1
  have hlt := lt_of_spacing n hd
  refine Nat.lt_succ_iff.mp (Nat.lt_of_mul_lt_mul_right (a := d * 2 ^ spacing n d) ?_)
  rw [Nat.succ_mul, significand]
  omega

theorem le_significand {n d : Nat} (hd : 0 < d) (hk : 0 < spacing n d) : 2 ^ 23 ≤ significand n d := by
  have hhalf := (rne_within_half n (grid_pos (n := n) hd)).1
  have hle := le_of_spacing_pos hd hk
  refine Nat.lt_succ_iff.mp (Nat.lt_of_mul_lt_mul_right (a := d * 2 ^ spacing n d) ?_)
  have hpos := grid_pos (n := n) hd
  rw [Nat.succ_mul]
  simp only [significand]
  omega

/-- Below the overflow threshold the bits are those of a finite value. -/
theorem bits_lt_infBits {n d : Nat} (hd : 0 < d) (hn : n < (2 ^ 25 - 1) * 2 ^ 252 * d) :
    spacing n d * 2 ^ 23 + significand n d < infBits := by
  have hle := significand_le n hd
  rcases lt_or_eq_of_le (spacing_le hd hn) with hk | hk
  · rw [infBits]
    omega
  · have hhalf := (rne_within_half n (grid_pos (n := n) hd)).1
    have hlt : significand n d < 2 ^ 24 := by
      refine Nat.lt_of_mul_lt_mul_right (a := d * 2 ^ spacing n d) ?_
      simp only [significand, hk] at hhalf ⊢
      omega
    rw [infBits, hk]
    omega

/-! Rounding a magnitude. -/

/-- A number of units with a binary32 significand is a grid point, a multiple of `2 ^ k`, or lies below `2 ^ 23` grid steps. -/
theorem multiple_or_lt {x : Int} {f e : Nat} (hf : f < 2 ^ 24) (hx : x.natAbs = f * 2 ^ e) (k : Nat) :
    (∃ u : Int, x = u * 2 ^ k) ∨ (0 < k ∧ x < 2 ^ 23 * 2 ^ k) := by
  rcases le_or_gt k e with hke | hke
  · left
    have hdvd : (2 : Int) ^ k ∣ x := by
      rw [← Int.natAbs_dvd_natAbs, hx, Int.natAbs_pow]
      exact Dvd.dvd.mul_left (pow_dvd_pow 2 hke) f
    obtain ⟨u, rfl⟩ := hdvd
    exact ⟨u, mul_comm _ _⟩
  · right
    have hlt : f * 2 ^ e < 2 ^ 23 * 2 ^ k :=
      calc f * 2 ^ e < 2 ^ 24 * 2 ^ e := Nat.mul_lt_mul_of_pos_right hf (Nat.two_pow_pos e)
        _ = 2 ^ 23 * 2 ^ (e + 1) := by ring
        _ ≤ 2 ^ 23 * 2 ^ k := Nat.mul_le_mul_left _ (Nat.pow_le_pow_right (by decide) hke)
    refine ⟨by omega, lt_of_le_of_lt Int.le_natAbs ?_⟩
    rw [hx]
    exact_mod_cast hlt

/-- Among the numbers with a binary32 value's significand and any power of two, the rounded magnitude is nearest to `n / d`, and has
an even significand where another is as near. -/
theorem significand_nearest (n : Nat) {d : Nat} (hd : 0 < d) {x : Int} {f e : Nat} (hf : f < 2 ^ 24)
    (hx : x.natAbs = f * 2 ^ e) :
    let r : Int := significand n d * 2 ^ spacing n d
    (r * d - n).natAbs ≤ (x * d - n).natAbs ∧
      ((r * d - n).natAbs = (x * d - n).natAbs → x ≠ r → significand n d % 2 = 0) := by
  intro r
  have hr : r * d = significand n d * (d * 2 ^ spacing n d : Nat) := by push_cast; ring
  have hgrid := rne_nearest n (grid_pos (n := n) hd)
  rcases multiple_or_lt hf hx (spacing n d) with ⟨u, rfl⟩ | ⟨hk, hlt⟩
  · have hu : u * 2 ^ spacing n d * d = u * (d * 2 ^ spacing n d : Nat) := by push_cast; ring
    rw [hr, hu]
    exact ⟨(hgrid u).1, fun heq hne => (hgrid u).2 heq fun h => hne (by rw [h]; rfl)⟩
  · have hle : ((2 ^ 23 : Int) * (d * 2 ^ spacing n d : Nat)) ≤ n := by exact_mod_cast le_of_spacing_pos hd hk
    have hxd : x * d < 2 ^ 23 * (d * 2 ^ spacing n d : Nat) := by
      calc x * d < 2 ^ 23 * 2 ^ spacing n d * d := mul_lt_mul_of_pos_right hlt (by exact_mod_cast hd)
        _ = 2 ^ 23 * (d * 2 ^ spacing n d : Nat) := by push_cast; ring
    have hlast : ((significand n d : Int) * (d * 2 ^ spacing n d : Nat) - n).natAbs ≤ _ := (hgrid (2 ^ 23)).1
    rw [hr]
    omega

end Sys2Proof.F32

namespace Sys2Proof.Machine

open Sys2Proof.F32

/-- Rounding `n / d` units with a sign gives the finite value nearest to it, ties to even (R13). -/
theorem round_nearestTo (neg : Bool) {n d : Nat} (hd : 0 < d) (hn : n < (2 ^ 25 - 1) * 2 ^ 252 * d) :
    NearestTo (F32.round neg n d) (signed neg n) d := by
  have hbits := bits_lt_infBits hd hn
  have hmag := mag_withSign neg hbits (significand_le n hd) (by
    rcases Nat.eq_zero_or_pos (spacing n d) with h | h
    · exact .inl h
    · exact .inr (le_significand hd h))
  rw [F32.round, roundMag_eq, min_eq_left hbits.le]
  refine ⟨isFinite_withSign neg hbits, fun w _ => ?_⟩
  obtain ⟨f, e, hf, hw⟩ := exists_mag_eq w
  obtain ⟨hle, heven⟩ := significand_nearest n hd (x := signed neg (scaled w)) hf
    (by rw [natAbs_signed, natAbs_scaled, hw])
  have hr : signed neg (scaled (withSign neg (spacing n d * 2 ^ 23 + significand n d)))
      = significand n d * 2 ^ spacing n d := by
    rw [scaled_eq_signed, sign_withSign, hmag, signed_signed]
    push_cast
    rfl
  rw [natAbs_mul_sub_signed, natAbs_mul_sub_signed neg (scaled w), hr]
  refine ⟨hle, fun heq hne => getLsbD_zero_withSign neg ?_⟩
  have hq := heven heq fun h => hne (by rw [← signed_signed neg (scaled w), h, ← hr, signed_signed])
  omega

end Sys2Proof.Machine

namespace Sys2Proof.F32

/-! Each operation on finite values is one rounding of its exact result. -/

theorem isNaN_of_finite {a : F32} (h : isFinite a = true) : isNaN a = false := by
  simp_all [isFinite, isNaN]

theorem isInf_of_finite {a : F32} (h : isFinite a = true) : isInf a = false := by
  simp_all [isFinite, isInf]

theorem round_zero (neg : Bool) : round neg 0 1 = withSign neg 0 := by
  rw [round, show roundMag 0 1 = 0 by decide]

/-- The exact sum is rounded with its own sign, or is an exact zero of either sign. -/
theorem addFinite_eq_round (a b : F32) :
    ∃ neg, addFinite a b = round neg (scaled a + scaled b).natAbs 1 ∧
      signed neg (scaled a + scaled b).natAbs = scaled a + scaled b := by
  by_cases h : scaled a + scaled b = 0
  · exact ⟨sign a && sign b, by simp [addFinite, h, round_zero], by rw [h]; exact signed_zero _⟩
  · exact ⟨decide (scaled a + scaled b < 0), by simp [addFinite, h], signed_natAbs _⟩

theorem add_of_finite {a b : F32} (ha : isFinite a = true) (hb : isFinite b = true) : add a b = addFinite a b := by
  simp [add, isNaN_of_finite, isInf_of_finite, ha, hb]

theorem mul_of_finite {a b : F32} (ha : isFinite a = true) (hb : isFinite b = true) :
    mul a b = round (sign a != sign b) (mag a * mag b) one := by
  simp [mul, isNaN_of_finite, isInf_of_finite, ha, hb]

theorem div_of_finite {a b : F32} (ha : isFinite a = true) (hb : isFinite b = true) (h0 : mag b ≠ 0) :
    div a b = round (sign a != sign b) (mag a * one) (mag b) := by
  simp [div, isNaN_of_finite, isInf_of_finite, ha, hb, h0]

/-- The signed dividend of the exact quotient, in the form the statements give it. -/
theorem scaled_mul_mul_sign (a : F32) {b : F32} (c : Int) (h0 : mag b ≠ 0) :
    scaled a * c * (scaled b).sign = signed (sign a != sign b) (mag a * c) := by
  have hsign : (scaled b).sign = signed (sign b) 1 := by
    have hpos : (mag b : Int).sign = 1 := Int.sign_eq_one_of_pos (by omega)
    rw [scaled_eq_signed]
    cases sign b <;> simp [hpos]
  rw [hsign, scaled_eq_signed, mul_right_comm, signed_mul_signed, mul_one]
  cases (sign a != sign b) <;> simp

/-! Subtraction adds the negated operand. -/

theorem sign_negate (a : F32) : sign (negate a) = !sign a := by
  simp [sign, negate]

theorem expo_negate (a : F32) : expo (negate a) = expo a := by
  simp [expo, negate, BitVec.extractLsb'_xor]

theorem frac_negate (a : F32) : frac (negate a) = frac a := by
  simp [frac, negate, BitVec.extractLsb'_xor]

theorem isFinite_negate (a : F32) : isFinite (negate a) = isFinite a := by
  rw [isFinite, expo_negate, isFinite]

theorem scaled_negate (a : F32) : scaled (negate a) = -scaled a := by
  have hmag : mag (negate a) = mag a := by rw [mag, expo_negate, frac_negate, mag]
  rw [scaled_eq_signed, scaled_eq_signed, sign_negate, hmag]
  cases sign a <;> simp

end Sys2Proof.F32

namespace Sys2Proof.Machine

open Sys2Proof.F32

/-- The rounded sum of finite values is nearest to the exact one. -/
theorem add_nearestTo {a b : F32} (ha : isFinite a = true) (hb : isFinite b = true)
    (h : BelowOverflow (scaled a + scaled b) 1) : NearestTo (F32.add a b) (scaled a + scaled b) 1 := by
  obtain ⟨neg, hround, hsigned⟩ := addFinite_eq_round a b
  rw [add_of_finite ha hb, hround, ← hsigned, natAbs_signed]
  exact round_nearestTo neg one_pos h

/-- Settles O30: both round the exact sum once, subtraction with the second operand negated. -/
theorem addAndSubRoundToNearest : Obligations.AddAndSubRoundToNearest := by
  intro a b ha hb
  refine ⟨add_nearestTo ha hb, fun h => ?_⟩
  have hsub := add_nearestTo ha ((isFinite_negate b).trans hb)
  rw [scaled_negate, ← sub_eq_add_neg] at hsub
  exact hsub h

/-- Settles O31: the exact product, over `2 ^ 149`, is rounded once with the product of the signs. -/
theorem mulRoundsToNearest : Obligations.MulRoundsToNearest := by
  intro a b ha hb h
  rw [scaled_eq_signed, scaled_eq_signed, signed_mul_signed] at h ⊢
  rw [mul_of_finite ha hb, one_eq]
  rw [BelowOverflow, natAbs_signed] at h
  exact_mod_cast round_nearestTo (sign a != sign b) (Nat.two_pow_pos 149) h

/-- Settles O32: the exact quotient, the dividend in units over the divisor's magnitude, is rounded once with the quotient of the
signs. -/
theorem divRoundsToNearest : Obligations.DivRoundsToNearest := by
  intro a b ha hb h0 h
  have hmag : mag b ≠ 0 := by rwa [← natAbs_scaled, Int.natAbs_ne_zero]
  rw [scaled_mul_mul_sign a _ hmag] at h ⊢
  rw [BelowOverflow, natAbs_signed, natAbs_scaled] at h
  rw [div_of_finite ha hb hmag, natAbs_scaled, one_eq]
  exact_mod_cast round_nearestTo (sign a != sign b) (Nat.pos_of_ne_zero hmag) h

end Sys2Proof.Machine
end

section
/-! PROOF. What a step can be, once, and what each kind of step leaves alone (R20, R33, R34, R47). -/

namespace Sys2Proof.Machine

/-! Everything a command and a step can do. -/

/-- What a command does to the state: one case per branch of its meaning. -/
inductive CommandEffect : Instr → State → State → Prop where
  | nop (s : State) : CommandEffect .nop s s
  | discard (x : Int) (s : State) (en : s.en = false) : CommandEffect (.sample x) s s
  | accept (x : Int) (s : State) (en : s.en = true) (more : s.cnt + 1 ≠ s.cfg.nBlock) :
      CommandEffect (.sample x) s (acceptSample x s)
  | complete (x : Int) (s : State) (en : s.en = true) (last : s.cnt + 1 = s.cfg.nBlock) :
      CommandEffect (.sample x) s (completeBlock (acceptSample x s))
  | sameLevel (s : State) : CommandEffect (.seten s.en) s s
  | switch (e : Bool) (s : State) (change : e ≠ s.en) : CommandEffect (.seten e) s { restartBlock s with en := e }
  | read (idx : BitVec 4) (v : Word) (s : State) (h : readReg idx s = some v) :
      CommandEffect (.rdreg idx) s (respond v s)
  | reserved (idx : BitVec 4) (s : State) (h : readReg idx s = none) :
      CommandEffect (.rdreg idx) s (recordError reservedReg (respond 0#32 s))
  | clear (m : BitVec 2) (s : State) : CommandEffect (.clrst m) s (clearOvr m (clearErr m s))

theorem CommandEffect.of_exec {i : Instr} {s t : State} (h : exec i s = .next t) : CommandEffect i s t := by
  cases i with
  | nop =>
    injection h with h
    exact h ▸ .nop s
  | sample x =>
    obtain ⟨hen, e⟩ | ⟨hen, hcnt, e⟩ | ⟨hen, hcnt, e⟩ := execSample_cases x s <;> injection e.symm.trans h with h
    · exact h ▸ .discard x s hen
    · exact h ▸ .accept x s hen hcnt
    · exact h ▸ .complete x s hen hcnt
  | seten e =>
    obtain ⟨rfl, e⟩ | ⟨hne, e⟩ := execSeten_cases e s <;> injection e.symm.trans h with h
    · exact h ▸ .sameLevel s
    · exact h ▸ .switch _ s hne
  | rdreg idx =>
    obtain ⟨v, hv, e⟩ | ⟨hv, e⟩ := execRdreg_cases idx s <;> injection e.symm.trans h with h
    · exact h ▸ .read idx v s hv
    · exact h ▸ .reserved idx s hv
  | clrst m =>
    injection h with h
    exact h ▸ .clear m s

/-- What a step does to the state: one case per turn, and for a command word one case per outcome of decoding. -/
inductive StepEffect (s : State) : State → Prop where
  | quiescent (tu : turn s = .quiescent) : StepEffect s (silent s)
  | analyze (tu : turn s = .analyze) : StepEffect s (analyzeWith (normalize s.cfg) (silent s))
  | illegal (w : Word) (e : Illegal) (tu : turn s = .command w) (hd : decode w = .error e) :
      StepEffect s (recordError illegalCmd (consume s))
  | command (w : Word) (i : Instr) (t : State) (tu : turn s = .command w) (hd : decode w = .ok i)
      (h : CommandEffect i (consume s) t) : StepEffect s t
  | reset (tu : turn s = .reset) : StepEffect s (resetStep (consume s))

theorem StepEffect.of_step {s t : State} (h : step s = .next t) : StepEffect s t := by
  obtain ⟨-, ⟨tu, rfl⟩ | ⟨tu, rfl⟩ | ⟨w, tu, hw⟩ | ⟨tu, rfl⟩⟩ := step_cases h
  · exact .quiescent tu
  · exact .analyze tu
  · obtain ⟨i, hd, he⟩ | ⟨⟨e, hd⟩, rfl⟩ := runWord_cases hw
    · exact .command w i t tu hd (.of_exec he)
    · exact .illegal w e tu hd
  · exact .reset tu

/-! What a step does when its turn, and the word's decoding, are known. -/

theorem configOk_of_step {s t : State} (h : step s = .next t) : configOk s.cfg = true := (step_cases h).1

theorem eq_resetStep_of_step {s t : State} (h : step s = .next t) (tu : turn s = .reset) : t = resetStep (consume s) := by
  simpa [step, configOk_of_step h, tu] using h.symm

theorem exec_of_step {s t : State} {w : Word} {i : Instr} (h : step s = .next t) (tu : turn s = .command w)
    (hd : decode w = .ok i) : exec i (consume s) = .next t := by
  simpa [step, configOk_of_step h, tu, runWord, hd] using h

theorem eq_recordError_of_step {s t : State} {w : Word} {e : Illegal} (h : step s = .next t) (tu : turn s = .command w)
    (hd : decode w = .error e) : t = recordError illegalCmd (consume s) := by
  simpa [step, configOk_of_step h, tu, runWord, hd, execIllegal] using h.symm

/-! What the composite operations leave alone. -/

@[simp] theorem acceptSample_cfg (x : Int) (s : State) : (acceptSample x s).cfg = s.cfg := rfl
@[simp] theorem acceptSample_s1 (x : Int) (s : State) : (acceptSample x s).s1 = (updateTaps (sampleValue x) s).s1 := rfl
@[simp] theorem acceptSample_s2 (x : Int) (s : State) : (acceptSample x s).s2 = s.s1 := rfl
@[simp] theorem acceptSample_cnt (x : Int) (s : State) : (acceptSample x s).cnt = s.cnt + 1 := rfl
@[simp] theorem completeBlock_cfg (s : State) : (completeBlock s).cfg = s.cfg := by simp [completeBlock]
@[simp] theorem completeBlock_cnt (s : State) : (completeBlock s).cnt = 0 := rfl

/-- R57: a command changes neither the configuration nor what AN owns. -/
theorem CommandEffect.frame {i : Instr} {s t : State} (h : CommandEffect i s t) : t.cfg = s.cfg ∧ SameAnalysis s t := by
  cases h with
  | nop | discard | sameLevel | accept | switch | read | reserved => exact ⟨rfl, by constructor <;> rfl⟩
  | complete => exact ⟨by simp, by constructor <;> simp [completeBlock, acceptSample]⟩
  | clear => exact ⟨by simp, by constructor <;> simp⟩

/-- R47, R56: a step is an analysis, a reset, or leaves what AN owns as it was. -/
theorem StepEffect.analysis_cases {s t : State} (h : StepEffect s t) :
    (turn s = .analyze ∧ t = analyzeWith (normalize s.cfg) (silent s)) ∨
      (turn s = .reset ∧ t = resetStep (consume s)) ∨ t.cfg = s.cfg ∧ SameAnalysis s t := by
  cases h with
  | analyze tu => exact .inl ⟨tu, rfl⟩
  | quiescent | illegal => exact .inr (.inr ⟨rfl, by constructor <;> rfl⟩)
  | command w i _ _ _ h =>
    obtain ⟨hcfg, hsame⟩ := h.frame
    exact .inr (.inr ⟨hcfg, ⟨hsame.y, hsame.c17, hsame.det, hsame.s17, hsame.lng, hsame.sym, hsame.h, hsame.sinceValid,
      hsame.sincePush, hsame.seqMatch, hsame.anacnt⟩⟩)
  | reset tu => exact .inr (.inl ⟨tu, rfl⟩)

theorem cfg_of_step {s t : State} (h : step s = .next t) : t.cfg = s.cfg := by
  obtain ⟨-, rfl⟩ | ⟨-, rfl⟩ | ⟨hcfg, -⟩ := (StepEffect.of_step h).analysis_cases
  · simp
  · rfl
  · exact hcfg

/-- Settles O18: the analysis and the reset step keep the configuration, and a command's frame holds it. -/
theorem everyStepKeepsConfiguration : Obligations.EveryStepKeepsConfiguration := fun _ _ => cfg_of_step

/-- Settles O21: each output is its bit, and a step that is neither an analysis nor a reset leaves the bits as they were. -/
theorem outputsChangeOnlyInAnalysisOrReset : Obligations.OutputsChangeOnlyInAnalysisOrReset := by
  intro s t h
  refine ⟨⟨rfl, rfl, rfl⟩, fun hna hnr => ?_⟩
  obtain ⟨tu, -⟩ | ⟨tu, -⟩ | ⟨-, hsame⟩ := (StepEffect.of_step h).analysis_cases
  · exact absurd tu hna
  · exact absurd tu hnr
  · exact ⟨hsame.det, hsame.lng, hsame.seqMatch⟩

/-! The error record and the overrun flag. -/

/-- R46: the indices that read no register. -/
theorem readReg_eq_none_iff (idx : BitVec 4) (s : State) : readReg idx s = none ↔ idx ∈ [6#4, 7#4, 13#4, 14#4, 15#4] := by
  obtain ⟨⟨n, hn⟩⟩ := idx
  interval_cases n <;> simp [readReg]

/-- R34: a command leaves the error record as it was, or reads a reserved index, or clears the record. -/
theorem CommandEffect.errorRecord {i : Instr} {s t : State} (h : CommandEffect i s t) :
    (t.err = s.err ∧ t.ecause = s.ecause) ∨
      (∃ idx, i = .rdreg idx ∧ idx ∈ [6#4, 7#4, 13#4, 14#4, 15#4]) ∨ ∃ m, i = .clrst m ∧ m.getLsbD 0 = true := by
  cases h with
  | nop | discard | sameLevel | accept | switch | read => exact .inl ⟨rfl, rfl⟩
  | complete => exact .inl (by simp [completeBlock, acceptSample])
  | reserved idx _ h => exact .inr (.inl ⟨idx, rfl, (readReg_eq_none_iff idx s).mp h⟩)
  | clear m =>
    by_cases hm : m.getLsbD 0 = true
    · exact .inr (.inr ⟨m, rfl, hm⟩)
    · exact .inl (by simp_all)

theorem execRdreg_reserved {idx : BitVec 4} (h : idx ∈ [6#4, 7#4, 13#4, 14#4, 15#4]) (s : State) :
    execRdreg idx s = .next (recordError reservedReg (respond 0#32 s)) := by
  simp [execRdreg, (readReg_eq_none_iff idx s).mpr h]

/-- Settles O23: each event that sets or clears the record by what its step does; no other step touches it. -/
theorem errorRecordChangesOnly : Obligations.ErrorRecordChangesOnly := by
  intro s t h
  refine ⟨fun w e tu hd => ?_, fun w idx tu hd hidx => ?_, fun w m tu hd hm => ?_, fun tu => ?_, fun hne => ?_⟩
  · rw [eq_recordError_of_step h tu hd]
    exact ⟨rfl, rfl⟩
  · injection (execRdreg_reserved hidx _).symm.trans (exec_of_step h tu hd) with ht
    exact ht ▸ ⟨rfl, rfl⟩
  · injection exec_of_step h tu hd with ht
    rw [← ht]
    simp [hm]
  · rw [eq_resetStep_of_step h tu]
    exact ⟨rfl, rfl⟩
  · cases StepEffect.of_step h with
    | quiescent | analyze => simp at hne
    | illegal w e tu hd => exact .inr ⟨w, tu, .inl ⟨e, hd⟩⟩
    | command w i _ tu hd h =>
      obtain ⟨herr, hcause⟩ | ⟨idx, rfl, hidx⟩ | ⟨m, rfl, hm⟩ := h.errorRecord
      · simp [herr, hcause] at hne
      · exact .inr ⟨w, tu, .inr (.inl ⟨idx, hd, hidx⟩)⟩
      · exact .inr ⟨w, tu, .inr (.inr ⟨m, hd, hm⟩)⟩
    | reset tu => exact .inl tu

/-- R86: a completed block leaves the overrun flag set when the slot was full. -/
theorem completeBlock_acceptSample_ovr (x : Int) (s : State) :
    (completeBlock (acceptSample x s)).ovr = (s.hv || s.ovr) := by simp [completeBlock, acceptSample]

/-- R33: a command leaves the overrun flag as it was, or completes a block on a full slot and sets it, or clears it. -/
theorem CommandEffect.overrun {i : Instr} {s t : State} (h : CommandEffect i s t) :
    t.ovr = s.ovr ∨
      (t.ovr = true ∧ ∃ x, i = .sample x ∧ s.en = true ∧ s.cnt + 1 = s.cfg.nBlock ∧ s.hv = true) ∨
        t.ovr = false ∧ ∃ m, i = .clrst m ∧ m.getLsbD 1 = true := by
  cases h with
  | nop | discard | sameLevel | accept | switch | read | reserved => exact .inl rfl
  | complete x _ en last =>
    rw [completeBlock_acceptSample_ovr]
    cases hv : s.hv with
    | false => exact .inl rfl
    | true => exact .inr (.inl ⟨rfl, x, rfl, en, last, rfl⟩)
  | clear m =>
    by_cases hm : m.getLsbD 1 = true
    · exact .inr (.inr ⟨by simp [hm], m, rfl, hm⟩)
    · exact .inl (by simp_all)

/-- R33: a step leaves the overrun flag as it was, or is one of the three that write it. -/
theorem StepEffect.overrun {s t : State} (h : StepEffect s t) :
    t.ovr = s.ovr ∨
      (t.ovr = true ∧ ∃ w x, turn s = .command w ∧ decode w = .ok (.sample x) ∧ s.en = true ∧
        s.cnt + 1 = s.cfg.nBlock ∧ s.hv = true) ∨
        t.ovr = false ∧ (turn s = .reset ∨ ∃ w m, turn s = .command w ∧ decode w = .ok (.clrst m) ∧ m.getLsbD 1 = true) := by
  cases h with
  | quiescent | illegal => exact .inl rfl
  | analyze => exact .inl (by simp)
  | command w i _ tu hd h =>
    obtain hovr | ⟨hovr, x, rfl, hen, hlast, hhv⟩ | ⟨hovr, m, rfl, hm⟩ := h.overrun
    · exact .inl hovr
    · exact .inr (.inl ⟨hovr, w, x, tu, hd, hen, hlast, hhv⟩)
    · exact .inr (.inr ⟨hovr, .inr ⟨w, m, tu, hd, hm⟩⟩)
  | reset tu => exact .inr (.inr ⟨rfl, .inl tu⟩)

/-- Settles O24: the completing SAMPLE on a full slot sets the flag, CLRST and a reset clear it, and no other step writes it. -/
theorem overrunFlagChangesOnly : Obligations.OverrunFlagChangesOnly := by
  intro s t h
  have hcases := (StepEffect.of_step h).overrun
  refine ⟨fun w x tu hd hen hlast hhv => ?_, fun hs ht => ?_, fun hs ht => ?_, fun w m tu hd hm => ?_, fun tu => ?_⟩
  · have hrun := exec_of_step h tu hd
    simp only [exec, execSample, consume_en, hen, acceptSample_cnt, acceptSample_cfg, consume_cnt,
      consume_cfg, hlast, if_true] at hrun
    injection hrun with hrun
    rw [← hrun, completeBlock_acceptSample_ovr, consume_hv, hhv, Bool.true_or]
  · obtain hsame | ⟨-, hset⟩ | ⟨hclear, -⟩ := hcases
    · simp [hs, ht] at hsame
    · exact hset
    · simp [ht] at hclear
  · obtain hsame | ⟨hset, -⟩ | ⟨-, hclear⟩ := hcases
    · simp [hs, ht] at hsame
    · simp [ht] at hset
    · exact hclear
  · injection exec_of_step h tu hd with ht
    rw [← ht]
    simp [hm]
  · rw [eq_resetStep_of_step h tu]
    rfl

end Sys2Proof.Machine
end

section
/-! PROOF. Items 1 to 8 of R48: they hold at reset and every step keeps them. An analysis is taken apart into its parts in the order
of R90, each part establishing or keeping the items about the fields it writes. -/

namespace Sys2Proof.Machine

/-! What the check of a configuration gives. -/

theorem validCode_ne_none {c : Config} (ok : configOk c = true) {p : Symbol} (h : p ∈ c.validCodes) : p ≠ Symbol.none := by
  obtain ⟨-, -, -, hvalid, -⟩ := (configOk_iff c).mp ok
  obtain ⟨⟨k, hk, -⟩, -⟩ := ((validOk_iff c).mp hvalid).1 p h
  rintro rfl
  simp at hk

/-- R15: no entry of SEQ is NONE. -/
theorem seq_ne_none {c : Config} (ok : configOk c = true) :
    c.seq.h0 ≠ Symbol.none ∧ c.seq.h1 ≠ Symbol.none ∧ c.seq.h2 ≠ Symbol.none := by
  obtain ⟨-, -, -, -, hseq, -⟩ := (configOk_iff c).mp ok
  obtain ⟨h0, h1, h2⟩ := (seqOk_iff c).mp hseq
  exact ⟨validCode_ne_none ok h0, validCode_ne_none ok h1, validCode_ne_none ok h2⟩

theorem nBlock_pos {c : Config} (ok : configOk c = true) : 0 < c.nBlock :=
  ((sizesOk_iff c).mp ((configOk_iff c).mp ok).1).2.1.1

theorem weights_le {c : Config} (ok : configOk c = true) : c.wHist + c.wNew ≤ 2 ^ c.wShift :=
  ((sizesOk_iff c).mp ((configOk_iff c).mp ok).1).2.2

theorem n1750_sustainBlocks_pos {c : Config} (ok : configOk c = true) : 0 < c.n1750 ∧ 0 < sustainBlocks c := by
  obtain ⟨-, -, -, -, -, hranges, -⟩ := (configOk_iff c).mp ok
  obtain ⟨-, ⟨hn, -⟩, -, -, hs, -⟩ := (rangesOk_iff c).mp hranges
  exact ⟨hn, hs⟩

/-! The reset state. -/

theorem inv_resetOf {c : Config} (ok : configOk c = true) : Inv (State.resetOf c) := by
  obtain ⟨hn, hs⟩ := n1750_sustainBlocks_pos ok
  refine ⟨nBlock_pos ok, fun i => ?_, ⟨Nat.zero_le _, fun h => ?_, fun _ => rfl⟩, ⟨Nat.zero_le _, ?_, nofun⟩,
    ⟨.inl rfl, .inl rfl, .inl rfl, .inl rfl⟩, ⟨Nat.zero_le _, le_rfl⟩, ?_, ⟨fun _ => ⟨rfl, rfl, rfl⟩, fun _ => ⟨rfl, rfl⟩⟩⟩
  · simp [State.resetOf]
  · exact absurd h hn.ne
  · exact ⟨nofun, fun h => absurd h hs.ne⟩
  · exact ⟨nofun, fun h => absurd (congrArg History.h0 h).symm (seq_ne_none ok).1⟩

/-! The parts of an analysis. -/

theorem normalize_bounded (c : Config) (e : Lanes F32) (i : Fin 5) :
    -(c.normScale : Int) ≤ (normalize c e).get i ∧ (normalize c e).get i ≤ c.normScale := by
  simp only [normalize]
  split
  · simp
  · rw [perChannel_get]
    split
    · exact clamp_mem _ (by omega)
    · omega

/-- A weighted sum divided by at least its weights stays in a symmetric range, truncation included. -/
theorem smooth_bounded {c : Config} (hw : c.wHist + c.wNew ≤ 2 ^ c.wShift) {k : Nat} {y n : Int}
    (hy : -(k : Int) ≤ y ∧ y ≤ k) (hn : -(k : Int) ≤ n ∧ n ≤ k) : -(k : Int) ≤ smooth c y n ∧ smooth c y n ≤ k := by
  have hsum : (c.wHist * y + c.wNew * n).natAbs ≤ 2 ^ c.wShift * k :=
    calc (c.wHist * y + c.wNew * n).natAbs ≤ (c.wHist * y).natAbs + (c.wNew * n).natAbs := Int.natAbs_add_le _ _
      _ = c.wHist * y.natAbs + c.wNew * n.natAbs := by simp [Int.natAbs_mul]
      _ ≤ c.wHist * k + c.wNew * k :=
        Nat.add_le_add (Nat.mul_le_mul_left _ (by omega)) (Nat.mul_le_mul_left _ (by omega))
      _ = (c.wHist + c.wNew) * k := (Nat.add_mul _ _ _).symm
      _ ≤ 2 ^ c.wShift * k := Nat.mul_le_mul_right k hw
  have hquot : (smooth c y n).natAbs ≤ k := by
    rw [smooth, tdiv, Int.natAbs_tdiv, Int.natAbs_pow]
    exact Nat.div_le_of_le_mul hsum
  omega

theorem strengthInv_smoothAll {n : Lanes Int} {s : State} (hw : s.cfg.wHist + s.cfg.wNew ≤ 2 ^ s.cfg.wShift)
    (hs : StrengthInv s) (hn : ∀ i, -(s.cfg.normScale : Int) ≤ n.get i ∧ n.get i ≤ s.cfg.normScale) :
    StrengthInv (smoothAll n s) := by
  intro i
  rw [smoothAll_y, smoothAll_cfg, perChannel_get]
  split
  · exact smooth_bounded hw (hs i) (hn i)
  · omega

theorem nextC17_le {s : State} (h : s.c17 ≤ s.cfg.n1750) : nextC17 s ≤ s.cfg.n1750 := by
  unfold nextC17
  split
  · exact satInc_le _ _
  · exact (satDec_le _).trans h

theorem presenceInv_decide1750 {s : State} (hn : 0 < s.cfg.n1750) (h : s.c17 ≤ s.cfg.n1750) : PresenceInv (decide1750 s) := by
  refine ⟨nextC17_le h, fun hmax => ?_, fun hmin => ?_⟩
  · exact if_pos hmax
  · rw [decide1750_c17] at hmin
    rw [decide1750_det, nextDet, if_neg (by omega), if_pos hmin]

theorem nextS17_le (s : State) : nextS17 s ≤ sustainBlocks s.cfg := by
  unfold nextS17
  split
  · exact satInc_le _ _
  · exact Nat.zero_le _

theorem sustainInv_decide1750 (s : State) : SustainInv (decide1750 s) := by
  refine ⟨nextS17_le s, beq_iff_eq, fun h => ?_⟩
  by_contra hdet
  rw [decide1750_det] at hdet
  simp [nextS17, hdet] at h

theorem isSymbol_symbolOf (c : Config) (p : Symbol) : IsSymbol c (symbolOf c p) := by
  unfold symbolOf
  split
  · exact .inr ‹_›
  · exact .inl rfl

/-- R107: a candidate is NONE or the symbol of this analysis. -/
theorem candidate_eq {s : State} {p : Symbol} (h : candidate s = some p) : p = Symbol.none ∨ p = s.sym := by
  unfold candidate at h
  split at h
  · split at h
    · exact .inl (Option.some.inj h).symm
    · exact absurd h nofun
  · exact .inr (Option.some.inj h).symm

/-- R109: what a push leaves in the history is what was there and a candidate. -/
theorem symbolInv_maybePush {s : State} (h : SymbolInv s) : SymbolInv (maybePush s) := by
  obtain ⟨hsym, h0, h1, h2⟩ := h
  obtain ⟨p, hp, -, -, e⟩ | e := maybePush_cases s <;> rw [e]
  · refine ⟨hsym, h1, h2, ?_⟩
    obtain rfl | rfl := candidate_eq hp
    · exact .inl rfl
    · exact hsym
  · exact ⟨hsym, h0, h1, h2⟩

theorem timerInv_countTimers (s : State) : TimerInv (countTimers s) := by
  refine ⟨?_, satInc_le _ _⟩
  rw [countTimers_sinceValid]
  split
  · exact satInc_le _ _
  · exact Nat.zero_le _

theorem timerInv_maybePush {s : State} (h : TimerInv s) : TimerInv (maybePush s) := by
  obtain ⟨p, -, -, -, e⟩ | e := maybePush_cases s <;> rw [e]
  · exact ⟨h.1, Nat.zero_le _⟩
  · exact h

/-- R108: a pushed candidate differs from the newest entry, so only the NONE of reset can stand twice in a row. -/
theorem adjacentInv_maybePush {s : State} (h : AdjacentInv s) : AdjacentInv (maybePush s) := by
  obtain ⟨p, -, hp, -, e⟩ | e := maybePush_cases s <;> rw [e]
  · exact ⟨fun heq => absurd heq.symm hp, fun heq => (h.1 heq).2⟩
  · exact h

/-! One analysis, one step. -/

/-- R90 up to R107: the state in which an analysis decides on a push. -/
def beforePush (norm : Lanes F32 → Lanes Int) (s : State) : State :=
  countTimers (decodeDtmf (decide1750 (smoothAll (norm s.he) s)))

theorem analyzeWith_eq_beforePush (norm : Lanes F32 → Lanes Int) (s : State) :
    analyzeWith norm s = finishAnalysis (matchSeq (maybePush (beforePush norm s))) := rfl

/-- R48, R96: an analysis keeps items 1 to 8 whatever total function within the bounds normalises the energies. -/
theorem inv_analyzeWith {norm : Lanes F32 → Lanes Int} {s : State} (ok : configOk s.cfg = true) (h : Inv s)
    (hn : ∀ i, -(s.cfg.normScale : Int) ≤ (norm s.he).get i ∧ (norm s.he).get i ≤ s.cfg.normScale) :
    Inv (analyzeWith norm s) := by
  have hsym : SymbolInv (beforePush norm s) := ⟨isSymbol_symbolOf _ _, h.symbol.2⟩
  rw [analyzeWith_eq_beforePush]
  refine ⟨?_, ?_, ?_, ?_, ?_, ?_, ?_, ?_⟩
  · simpa [CountInv, beforePush] using h.count
  · simpa [StrengthInv, beforePush] using strengthInv_smoothAll (weights_le ok) h.strength hn
  · simpa [PresenceInv, beforePush] using
      presenceInv_decide1750 (s := smoothAll (norm s.he) s) (n1750_sustainBlocks_pos ok).1 h.presence.1
  · simpa [SustainInv, beforePush] using sustainInv_decide1750 (smoothAll (norm s.he) s)
  · simpa [SymbolInv] using symbolInv_maybePush hsym
  · simpa [TimerInv] using timerInv_maybePush (s := beforePush norm s) (timerInv_countTimers _)
  · exact beq_iff_eq
  · simpa [AdjacentInv] using adjacentInv_maybePush (s := beforePush norm s) h.adjacent

/-- Items 2 to 8 of R48 are about what AN owns. -/
theorem Inv.of_sameAnalysis {s t : State} (h : Inv s) (hcfg : t.cfg = s.cfg) (hsame : SameAnalysis s t)
    (hcount : CountInv t) : Inv t := by
  obtain ⟨hy, hc17, hdet, hs17, hlng, hsym, hh, hsv, hsp, hmatch, -⟩ := hsame
  refine ⟨hcount, ?_, ?_, ?_, ?_, ?_, ?_, ?_⟩
  · simpa only [StrengthInv, hy, hcfg] using h.strength
  · simpa only [PresenceInv, hc17, hdet, hcfg] using h.presence
  · simpa only [SustainInv, hs17, hlng, hdet, hcfg] using h.sustain
  · simpa only [SymbolInv, hsym, hh, hcfg] using h.symbol
  · simpa only [TimerInv, hsv, hsp, hcfg] using h.timer
  · simpa only [MatchInv, hmatch, hh, hcfg] using h.seqMatch
  · simpa only [AdjacentInv, hh] using h.adjacent

/-- R84, R85: a command counts a sample only short of the block boundary. -/
theorem CommandEffect.countInv {i : Instr} {s t : State} (h : CommandEffect i s t) (hs : CountInv s) : CountInv t := by
  have hpos : 0 < s.cfg.nBlock := Nat.zero_lt_of_lt hs
  cases h with
  | nop | discard | sameLevel | read | reserved => exact hs
  | accept _ _ _ more => exact lt_of_le_of_ne hs more
  | complete => simpa [CountInv] using hpos
  | switch => exact hpos
  | clear => simpa [CountInv] using hs

theorem StepEffect.countInv {s t : State} (h : StepEffect s t) (hs : CountInv s) : CountInv t := by
  cases h with
  | quiescent | illegal => exact hs
  | analyze => simpa [CountInv] using hs
  | command _ _ _ _ _ h => exact h.countInv hs
  | reset => exact Nat.zero_lt_of_lt hs

/-- What a reset step leaves differs from the reset state on the host's side only. -/
theorem inv_resetStep {s : State} (ok : configOk s.cfg = true) : Inv (resetStep s) := by
  obtain ⟨h1, h2, h3, h4, h5, h6, h7, h8⟩ := inv_resetOf ok
  exact ⟨h1, h2, h3, h4, h5, h6, h7, h8⟩

/-- Settles O54: an analysis keeps the items by its parts, a reset starts them anew, and a command only counts a sample. -/
theorem invariantKeptByEveryStep : Obligations.InvariantKeptByEveryStep := by
  intro s t hs h
  have ok := configOk_of_step h
  have hcount := (StepEffect.of_step h).countInv hs.count
  obtain ⟨-, rfl⟩ | ⟨-, rfl⟩ | ⟨hcfg, hsame⟩ := (StepEffect.of_step h).analysis_cases
  · have hsilent : Inv (silent s) := hs.of_sameAnalysis rfl (by constructor <;> rfl) hs.count
    exact inv_analyzeWith ok hsilent (normalize_bounded s.cfg s.he)
  · exact inv_resetStep ok
  · exact hs.of_sameAnalysis hcfg hsame hcount

/-- Settles O57: a match makes the history SEQ, and an entry that stands twice in a row in the history is NONE, which no entry of SEQ
is. -/
theorem repeatedEntrySequenceNeverMatches : Obligations.RepeatedEntrySequenceNeverMatches := by
  intro s ok hs hrep
  obtain ⟨hne, -, -⟩ := seq_ne_none ok
  by_contra hmatch
  have hseq : s.h = s.cfg.seq := hs.seqMatch.mp (Bool.eq_true_of_not_eq_false hmatch)
  obtain ⟨hnewer, holder⟩ := hs.adjacent
  rw [hseq] at hnewer holder
  rcases hrep with heq | heq
  · exact hne (holder heq).1
  · exact hne (hnewer heq).1

/-! The reset state: its registers, and every invariant. -/

theorem statusWord_resetOf (c : Config) : statusWord (State.resetOf c) = 0#32 := by
  simp only [statusWord, State.resetOf]
  decide

theorem histWord_resetOf (c : Config) : histWord (State.resetOf c) = 0#32 := by
  simp only [histWord, State.resetOf]
  decide

theorem scntWord_resetOf (c : Config) : scntWord (State.resetOf c) = 0#32 := by
  simp only [scntWord, State.resetOf]
  decide

theorem c1750Word_resetOf (c : Config) : c1750Word (State.resetOf c) = 0#32 := by
  simp only [c1750Word, State.resetOf]
  decide

theorem strengthWord_resetOf (c : Config) (i : Fin 5) : strengthWord (State.resetOf c) i = 0#32 := by
  simp [strengthWord, State.resetOf]

theorem dtmftWord_resetOf (c : Config) : dtmftWord (State.resetOf c) = BitVec.ofNat 32 c.debounce <<< 16 := by
  apply BitVec.eq_of_toNat_eq
  simp only [dtmftWord, State.resetOf, BitVec.toNat_append, BitVec.toNat_ofNat, BitVec.toNat_shiftLeft, Nat.shiftLeft_eq,
    Nat.zero_mod, Nat.or_zero]
  omega

/-- Settles O14: index by index; at reset only DTMFT shows a field that is not 0. -/
theorem registersReadTheirResetValues : Obligations.RegistersReadTheirResetValues := by
  intro c idx _
  obtain ⟨⟨n, hn⟩⟩ := idx
  interval_cases n <;>
    simp [readReg, statusWord_resetOf, histWord_resetOf, scntWord_resetOf, c1750Word_resetOf, dtmftWord_resetOf,
      strengthWord_resetOf]

end Sys2Proof.Machine
end

section
/-! PROOF. Item 9 of R48 and its argument in R88: the taps and the energies stay finite. An operation on finite values of moderate size
is finite and within one rounding of the exact result, so a recursion step is `coeff * s1 - s2` up to a bounded disturbance. With
`coeff = z + conj z` for a `z` of norm 1, the numbers `s1 - z * s2` grow by no more than the disturbance at each sample, and the taps
by no more than those. -/

namespace Sys2Proof.F32

open Sys2Proof.Machine

/-! One rounding, as a real number. -/

/-- A finite value within one rounding of a real number: half a unit in the 24th place, or half a unit of 2^-149 (R13). -/
def RoundsTo (r : F32) (v : ℝ) : Prop := isFinite r = true ∧ |realOf r - v| ≤ |v| / 2 ^ 24 + 1 / 2 ^ 150

/-- The rounded magnitude's distance from the exact one, in units: `n / 2 ^ 24` where the grid is coarse, half a unit where it
is not. -/
theorem significand_error (n : Nat) {d : Nat} (hd : 0 < d) :
    2 ^ 24 * ((significand n d * 2 ^ spacing n d : Nat) * d - n : Int).natAbs ≤ n + 2 ^ 23 * d := by
  have hhalf := (rne_within_half n (grid_pos (n := n) hd)).1
  have hassoc : ((significand n d * 2 ^ spacing n d : Nat) * d : Int)
      = rne n (d * 2 ^ spacing n d) * (d * 2 ^ spacing n d : Nat) := by
    rw [significand]
    push_cast
    ring
  rw [hassoc]
  rcases Nat.eq_zero_or_pos (spacing n d) with hk | hk
  · rw [hk, pow_zero, mul_one] at hhalf ⊢
    omega
  · have hle := le_of_spacing_pos hd hk
    omega

/-- Below the overflow threshold a rounded fraction is finite and has the rounded magnitude. -/
theorem scaled_round (neg : Bool) {n d : Nat} (hd : 0 < d) (hn : n < (2 ^ 25 - 1) * 2 ^ 252 * d) :
    isFinite (round neg n d) = true ∧ scaled (round neg n d) = signed neg (significand n d * 2 ^ spacing n d : Nat) := by
  have hbits := bits_lt_infBits hd hn
  rw [round, roundMag_eq, min_eq_left hbits.le]
  refine ⟨isFinite_withSign neg hbits, ?_⟩
  rw [scaled_eq_signed, sign_withSign, mag_withSign neg hbits (significand_le n hd)]
  exact (Nat.eq_zero_or_pos (spacing n d)).imp_right (le_significand hd)

theorem signed_sub_signed (neg : Bool) (m n : Int) : signed neg m - signed neg n = signed neg (m - n) := by
  cases neg
  · rfl
  · simp only [signed_true]
    omega

theorem signed_mul (neg : Bool) (m n : Int) : signed neg m * n = signed neg (m * n) := by
  cases neg <;> simp

theorem scaled_round_error (neg : Bool) {n d : Nat} (hd : 0 < d) (hn : n < (2 ^ 25 - 1) * 2 ^ 252 * d) :
    2 ^ 24 * (scaled (round neg n d) * d - signed neg n).natAbs ≤ n + 2 ^ 23 * d := by
  rw [(scaled_round neg hd hn).2, signed_mul, signed_sub_signed, natAbs_signed]
  exact significand_error n hd

theorem scaled_eq_realOf (a : F32) : (scaled a : ℝ) = realOf a * 2 ^ 149 := by
  rw [realOf, div_mul_cancel₀ _ (by positivity)]

/-- Rounding the fraction whose value is v, with a sign, rounds v. -/
theorem round_roundsTo (neg : Bool) {n d : Nat} {v : ℝ} (hd : 0 < d) (hv : v * (d * 2 ^ 149) = (signed neg n : ℤ))
    (hb : |v| ≤ 2 ^ 127) : RoundsTo (round neg n d) v := by
  have hpos : (0 : ℝ) < d * 2 ^ 149 := by positivity
  have hn : (n : ℝ) = |v| * (d * 2 ^ 149) := by
    calc (n : ℝ) = ((signed neg n).natAbs : ℝ) := by rw [natAbs_signed, Int.natAbs_natCast]
      _ = |v * (d * 2 ^ 149)| := by rw [hv, Nat.cast_natAbs, Int.cast_abs]
      _ = |v| * (d * 2 ^ 149) := by rw [abs_mul, abs_of_pos hpos]
  have hlt : n < (2 ^ 25 - 1) * 2 ^ 252 * d := by
    have h : (n : ℝ) ≤ 2 ^ 127 * (d * 2 ^ 149) := hn ▸ mul_le_mul_of_nonneg_right hb hpos.le
    have h' : n ≤ 2 ^ 127 * (d * 2 ^ 149) := by exact_mod_cast h
    omega
  have hdist : ((scaled (round neg n d) * d - signed neg n).natAbs : ℝ) = |realOf (round neg n d) - v| * (d * 2 ^ 149) := by
    rw [Nat.cast_natAbs, Int.cast_abs, Int.cast_sub, Int.cast_mul, scaled_eq_realOf, Int.cast_natCast, ← hv, mul_assoc,
      mul_comm (2 ^ 149 : ℝ), ← sub_mul, abs_mul, abs_of_pos hpos]
  have herr : 2 ^ 24 * (|realOf (round neg n d) - v| * (d * 2 ^ 149)) ≤ |v| * (d * 2 ^ 149) + 2 ^ 23 * d := by
    rw [← hdist, ← hn]
    exact_mod_cast scaled_round_error neg hd hlt
  refine ⟨(scaled_round neg hd hlt).1, le_of_mul_le_mul_left ?_ hpos⟩
  linarith

/-! The operations on finite values. -/

theorem realOf_negate (a : F32) : realOf (negate a) = -realOf a := by
  rw [realOf, scaled_negate, realOf, Int.cast_neg, neg_div]

theorem add_roundsTo {a b : F32} (ha : isFinite a = true) (hb : isFinite b = true) (h : |realOf a + realOf b| ≤ 2 ^ 127) :
    RoundsTo (add a b) (realOf a + realOf b) := by
  obtain ⟨neg, hround, hsigned⟩ := addFinite_eq_round a b
  rw [add_of_finite ha hb, hround]
  refine round_roundsTo neg one_pos ?_ h
  rw [hsigned, realOf, realOf]
  push_cast
  field_simp

theorem sub_roundsTo {a b : F32} (ha : isFinite a = true) (hb : isFinite b = true) (h : |realOf a - realOf b| ≤ 2 ^ 127) :
    RoundsTo (sub a b) (realOf a - realOf b) := by
  rw [sub_eq_add_neg, ← realOf_negate] at h ⊢
  exact add_roundsTo ha ((isFinite_negate b).trans hb) h

theorem mul_roundsTo {a b : F32} (ha : isFinite a = true) (hb : isFinite b = true) (h : |realOf a * realOf b| ≤ 2 ^ 127) :
    RoundsTo (mul a b) (realOf a * realOf b) := by
  rw [mul_of_finite ha hb, one_eq]
  refine round_roundsTo _ (Nat.two_pow_pos 149) ?_ h
  rw [Nat.cast_mul, ← signed_mul_signed, ← scaled_eq_signed, ← scaled_eq_signed, realOf, realOf, div_mul_div_comm,
    Nat.cast_pow, Nat.cast_ofNat, div_mul_cancel₀ _ (by positivity), Int.cast_mul]

theorem ofInt_roundsTo {k : Int} (h : |(k : ℝ)| ≤ 2 ^ 127) : RoundsTo (ofInt k) k := by
  refine round_roundsTo _ one_pos ?_ h
  rw [Nat.cast_mul, ← signed_mul, signed_natAbs, one_eq]
  push_cast
  ring

/-! Bounds that survive a rounding. -/

/-- A finite value of magnitude at most B. -/
def Within (B : ℝ) (a : F32) : Prop := isFinite a = true ∧ |realOf a| ≤ B

theorem within_zero {B : ℝ} (hB : 0 ≤ B) : Within B zero := by
  refine ⟨by decide, ?_⟩
  rw [realOf, show scaled zero = 0 by decide]
  simpa using hB

/-- How far rounding moves a number of bounded magnitude. -/
theorem RoundsTo.error_le {r : F32} {v B e : ℝ} (h : RoundsTo r v) (hv : |v| ≤ B) (he : B / 2 ^ 24 + 1 / 2 ^ 150 ≤ e) :
    |realOf r - v| ≤ e := by
  linarith [h.2]

/-- Rounding no more than doubles a bound of at least 1. -/
theorem RoundsTo.within {r : F32} {v B : ℝ} (h : RoundsTo r v) (hv : |v| ≤ B) (hB : 1 ≤ B) : Within (2 * B) r := by
  refine ⟨h.1, ?_⟩
  have htri := abs_sub_abs_le_abs_sub (realOf r) v
  linarith [h.2]

theorem Within.add {A B : ℝ} {a b : F32} (ha : Within A a) (hb : Within B b) (h1 : 1 ≤ A + B) (h : A + B ≤ 2 ^ 127) :
    Within (2 * (A + B)) (F32.add a b) := by
  have hv : |realOf a + realOf b| ≤ A + B := (abs_add_le _ _).trans (add_le_add ha.2 hb.2)
  exact (add_roundsTo ha.1 hb.1 (hv.trans h)).within hv h1

theorem Within.sub {A B : ℝ} {a b : F32} (ha : Within A a) (hb : Within B b) (h1 : 1 ≤ A + B) (h : A + B ≤ 2 ^ 127) :
    Within (2 * (A + B)) (F32.sub a b) := by
  have hv : |realOf a - realOf b| ≤ A + B := (abs_sub _ _).trans (add_le_add ha.2 hb.2)
  exact (sub_roundsTo ha.1 hb.1 (hv.trans h)).within hv h1

theorem Within.mul {A B : ℝ} {a b : F32} (ha : Within A a) (hb : Within B b) (h1 : 1 ≤ A * B) (h : A * B ≤ 2 ^ 127) :
    Within (2 * (A * B)) (F32.mul a b) := by
  have hv : |realOf a * realOf b| ≤ A * B := by
    rw [abs_mul]
    exact mul_le_mul ha.2 hb.2 (abs_nonneg _) ((abs_nonneg _).trans ha.2)
  exact (mul_roundsTo ha.1 hb.1 (hv.trans h)).within hv h1

end Sys2Proof.F32

namespace Sys2Proof.Machine

open Sys2Proof.F32

/-! Every coefficient lies in [-2, 2]. -/

theorem searchKey_mem (p q : Nat) (n : Nat) {lo hi : Int} (h : lo < hi) :
    lo ≤ searchKey p q n lo hi ∧ searchKey p q n lo hi < hi := by
  induction n generalizing lo hi with
  | zero => exact ⟨le_rfl, h⟩
  | succ n ih =>
    simp only [searchKey]
    split
    · exact ⟨le_rfl, h⟩
    have hmid : lo < (lo + hi) / 2 ∧ (lo + hi) / 2 < hi := by omega
    split
    · exact ⟨hmid.1.le.trans (ih hmid.2).1, (ih hmid.2).2⟩
    · exact ⟨(ih hmid.1).1, (ih hmid.1).2.trans hmid.2⟩

/-- The bits up to those of 2.0 are the values up to 2. -/
theorem mag_withSign_le (neg : Bool) {b : Nat} (hb : b ≤ 0x40000000) : mag (withSign neg b) ≤ 2 ^ 150 := by
  have hinf : b < infBits := lt_of_le_of_lt hb (by decide)
  have hexpo := expo_withSign neg hinf
  have hfrac := frac_withSign neg hinf
  cases he : expo (withSign neg b) with
  | zero =>
    rw [mag_of_expo_zero he]
    omega
  | succ j =>
    rw [mag_of_expo_succ he]
    rcases Nat.lt_or_ge j 127 with hj | hj
    · calc (2 ^ 23 + frac (withSign neg b)) * 2 ^ j ≤ 2 ^ 24 * 2 ^ 126 :=
          Nat.mul_le_mul (by omega) (Nat.pow_le_pow_right (by decide) (by omega))
        _ = 2 ^ 150 := by decide
    · obtain rfl : j = 127 := by omega
      omega

theorem within_two_of_mag_le {a : F32} (hf : isFinite a = true) (h : mag a ≤ 2 ^ 150) : Within 2 a := by
  refine ⟨hf, ?_⟩
  rw [realOf, abs_div, ← Int.cast_abs, Int.abs_eq_natAbs, natAbs_scaled, abs_of_pos (by positivity),
    div_le_iff₀ (by positivity)]
  exact_mod_cast h

theorem deriveCoeff_within (f fs : Ratio) : Within 2 (deriveCoeff f fs) := by
  simp only [deriveCoeff, ofKey]
  generalize hk : searchKey _ _ 33 (-keyTwo) (keyTwo + 1) = k
  have hmem : -keyTwo ≤ k ∧ k < keyTwo + 1 := hk ▸ searchKey_mem _ _ 33 (by decide)
  have hbits : k.natAbs ≤ 0x40000000 := by
    rw [keyTwo] at hmem
    omega
  exact within_two_of_mag_le (isFinite_withSign _ (lt_of_le_of_lt hbits (by decide))) (mag_withSign_le _ hbits)

/-- R82, 93 I3: given or derived, a coefficient is finite and lies in [-2, 2]. -/
theorem coeff_within {c : Config} (ok : configOk c = true) (i : Fin 5) : Within 2 (coeff c i) := by
  obtain ⟨-, -, -, -, -, -, -, -, hgiven⟩ := (configOk_iff c).mp ok
  unfold coeff
  split
  · rename_i w hw
    obtain ⟨hf, hmag⟩ := (givenCoeffsOk_iff _).mp hgiven i w hw
    exact within_two_of_mag_le hf (by rwa [natAbs_scaled, ← pow_succ'] at hmag)
  · exact deriveCoeff_within _ _

/-! The recursion. -/

/-- R88's bound on a tap: above `20000 * 800 * 801`. -/
def tapBound : ℝ := 2 ^ 34

theorem sampleInRange_iff (x : Int) : sampleInRange x = true ↔ -32768 ≤ x ∧ x ≤ 32767 := by
  simp [sampleInRange]

theorem abs_le_of_sampleInRange {x : Int} (h : sampleInRange x = true) : |(x : ℝ)| ≤ 2 ^ 15 := by
  rw [sampleInRange_iff] at h
  have habs : |x| ≤ 2 ^ 15 := abs_le.mpr ⟨by omega, by omega⟩
  exact_mod_cast habs

/-- A sample as a binary32 value, with a rounding counted although R81 has none. -/
theorem within_sampleValue {x : Int} (hx : sampleInRange x = true) : Within 32769 (sampleValue x) := by
  have hx := abs_le_of_sampleInRange hx
  have hround := ofInt_roundsTo (k := x) (hx.trans (by norm_num))
  have herr : |realOf (sampleValue x) - x| ≤ 1 := hround.error_le hx (by norm_num)
  have htri := abs_sub_abs_le_abs_sub (realOf (sampleValue x)) x
  exact ⟨hround.1, by linarith⟩

/-- One step of the recursion is `c * a - b` up to the sample and three roundings, together at most 40000. -/
theorem channelUpdate_disturbance {c a b xf : F32} (hc : Within 2 c) (ha : Within tapBound a) (hb : Within tapBound b)
    (hx : Within 32769 xf) :
    isFinite (channelUpdate c a b xf) = true ∧
      |realOf (channelUpdate c a b xf) - (realOf c * realOf a - realOf b)| ≤ 40000 := by
  obtain ⟨hcf, hc⟩ := hc
  obtain ⟨haf, ha⟩ := ha
  obtain ⟨hbf, hb⟩ := hb
  obtain ⟨hxf, hx⟩ := hx
  rw [tapBound] at ha hb
  have hp : |realOf c * realOf a| ≤ 2 * 2 ^ 34 := by
    rw [abs_mul]
    exact mul_le_mul hc ha (abs_nonneg _) zero_le_two
  have hmul := mul_roundsTo hcf haf (hp.trans (by norm_num))
  have ht := hmul.error_le (e := 2049) hp (by norm_num)
  have hsum : |realOf xf + realOf (F32.mul c a)| ≤ 2 * 2 ^ 34 + 2 ^ 16 := by
    rw [abs_le] at *
    constructor <;> linarith
  have hadd := add_roundsTo hxf hmul.1 (hsum.trans (by norm_num))
  have hu := hadd.error_le (e := 2049) hsum (by norm_num)
  have hdiff : |realOf (F32.add xf (F32.mul c a)) - realOf b| ≤ 3 * 2 ^ 34 + 2 ^ 17 := by
    rw [abs_le] at *
    constructor <;> linarith
  have hsub := sub_roundsTo hadd.1 hbf (hdiff.trans (by norm_num))
  have hr := hsub.error_le (e := 3073) hdiff (by norm_num)
  refine ⟨hsub.1, ?_⟩
  change |realOf (F32.sub (F32.add xf (F32.mul c a)) b) - _| ≤ _
  rw [abs_le] at *
  constructor <;> linarith

/-- A number of norm 1 whose real part is half the coefficient: a root of the recursion's characteristic equation
`z ^ 2 - c z + 1`. -/
theorem exists_root {c : ℝ} (hc : |c| ≤ 2) : ∃ z : ℂ, z * starRingEnd ℂ z = 1 ∧ z + starRingEnd ℂ z = c := by
  have hsq : 0 ≤ 1 - (c / 2) ^ 2 := by nlinarith [abs_le.mp hc]
  refine ⟨⟨c / 2, √(1 - (c / 2) ^ 2)⟩, ?_, ?_⟩
  · rw [Complex.mul_conj, Complex.normSq_mk, ← pow_two (√_), Real.sq_sqrt hsq]
    norm_num
    ring
  · rw [Complex.add_conj]
    push_cast
    ring

/-- R88: what is kept after n samples by two taps under a recursion with root z. -/
structure TapsBounded (z : ℂ) (n : ℕ) (a b : ℝ) : Prop where
  mode : ‖(a : ℂ) - z * b‖ ≤ 40000 * n
  new : |a| ≤ 20000 * n * (n + 1)
  old : |b| ≤ 20000 * n * (n + 1)

/-- A step with a disturbance of at most 40000 adds as much to the mode, and the mode to the tap. -/
theorem TapsBounded.step {z : ℂ} {c : ℝ} {n : ℕ} {a b r : ℝ} (hz : z * starRingEnd ℂ z = 1) (hc : z + starRingEnd ℂ z = c)
    (h : TapsBounded z n a b) (hr : |r - (c * a - b)| ≤ 40000) : TapsBounded z (n + 1) r a := by
  have hnorm : ‖z‖ = 1 := by
    have := congrArg norm hz
    rw [norm_mul, RCLike.norm_conj, norm_one] at this
    nlinarith [norm_nonneg z]
  have hmode : ‖(r : ℂ) - z * a‖ ≤ 40000 * (n + 1) := by
    have hsplit : (r : ℂ) - z * a = starRingEnd ℂ z * (a - z * b) + ((r - (c * a - b) : ℝ) : ℂ) := by
      push_cast
      rw [← hc]
      linear_combination (b : ℂ) * hz
    calc ‖(r : ℂ) - z * a‖ ≤ ‖starRingEnd ℂ z * (a - z * b)‖ + ‖((r - (c * a - b) : ℝ) : ℂ)‖ := hsplit ▸ norm_add_le _ _
      _ = ‖(a : ℂ) - z * b‖ + |r - (c * a - b)| := by
        rw [norm_mul, RCLike.norm_conj, hnorm, one_mul, Complex.norm_real, Real.norm_eq_abs]
      _ ≤ 40000 * (n + 1) := by linarith [h.mode]
  have hnew : |r| ≤ ‖(r : ℂ) - z * a‖ + |a| := by
    have := norm_add_le ((r : ℂ) - z * a) (z * a)
    rwa [sub_add_cancel, norm_mul, hnorm, one_mul, Complex.norm_real, Complex.norm_real] at this
  have hn : (0 : ℝ) ≤ n := n.cast_nonneg
  have hold := h.new
  constructor
  · exact_mod_cast hmode
  all_goals
    push_cast
    nlinarith

theorem TapsBounded.le_tapBound {z : ℂ} {n : ℕ} {a b : ℝ} (h : TapsBounded z n a b) (hn : n ≤ 800) :
    |a| ≤ tapBound ∧ |b| ≤ tapBound := by
  have hn' : (n : ℝ) ≤ 800 := by exact_mod_cast hn
  have hle : 20000 * (n : ℝ) * (n + 1) ≤ tapBound := by
    rw [tapBound]
    nlinarith [n.cast_nonneg (α := ℝ)]
  exact ⟨h.new.trans hle, h.old.trans hle⟩

theorem tapsOf_concat (c : F32) (xs : List Int) (x : Int) :
    tapsOf c (xs ++ [x]) = (channelUpdate c (tapsOf c xs).1 (tapsOf c xs).2 (sampleValue x), (tapsOf c xs).1) := by
  rw [tapsOf, List.foldl_concat]
  rfl

/-- R88: the taps after at most 800 samples are finite and within their bound. -/
theorem tapsOf_bounded {c : F32} (hc : Within 2 c) {z : ℂ} (hz : z * starRingEnd ℂ z = 1)
    (hzc : z + starRingEnd ℂ z = (realOf c : ℂ)) (xs : List Int) (hlen : xs.length ≤ 800)
    (hxs : ∀ x ∈ xs, sampleInRange x = true) :
    isFinite (tapsOf c xs).1 = true ∧ isFinite (tapsOf c xs).2 = true ∧
      TapsBounded z xs.length (realOf (tapsOf c xs).1) (realOf (tapsOf c xs).2) := by
  induction xs using List.reverseRecOn with
  | nil =>
    have h0 : realOf F32.zero = 0 := by simp [realOf, show F32.scaled F32.zero = 0 by decide]
    have hf : isFinite F32.zero = true := by decide
    exact ⟨hf, hf, by simp [tapsOf, h0], by simp [tapsOf, h0], by simp [tapsOf, h0]⟩
  | append_singleton xs x ih =>
    rw [List.length_append, List.length_singleton] at hlen ⊢
    obtain ⟨hf1, hf2, hbound⟩ := ih (by omega) fun y hy => hxs y (List.mem_append_left _ hy)
    obtain ⟨h1, h2⟩ := hbound.le_tapBound (by omega)
    obtain ⟨hf, hr⟩ := channelUpdate_disturbance hc ⟨hf1, h1⟩ ⟨hf2, h2⟩ (within_sampleValue (hxs x (by simp)))
    rw [tapsOf_concat]
    exact ⟨hf, hf1, hbound.step hz hzc hr⟩

theorem tapsOf_within {c : F32} (hc : Within 2 c) {xs : List Int} (hlen : xs.length ≤ 800)
    (hxs : ∀ x ∈ xs, sampleInRange x = true) : Within tapBound (tapsOf c xs).1 ∧ Within tapBound (tapsOf c xs).2 := by
  obtain ⟨z, hz, hzc⟩ := exists_root hc.2
  obtain ⟨hf1, hf2, hbound⟩ := tapsOf_bounded hc hz hzc xs hlen hxs
  obtain ⟨h1, h2⟩ := hbound.le_tapBound hlen
  exact ⟨⟨hf1, h1⟩, hf2, h2⟩

/-- R88: energies of bounded taps are finite. -/
theorem isFinite_energy {c a b : F32} (hc : Within 2 c) (ha : Within tapBound a) (hb : Within tapBound b) :
    isFinite (energy c a b) = true := by
  have haa := ha.mul ha (by norm_num [tapBound]) (by norm_num [tapBound])
  have hbb := hb.mul hb (by norm_num [tapBound]) (by norm_num [tapBound])
  have hab := haa.add hbb (by norm_num [tapBound]) (by norm_num [tapBound])
  have hca := hc.mul ha (by norm_num [tapBound]) (by norm_num [tapBound])
  have hcab := hca.mul hb (by norm_num [tapBound]) (by norm_num [tapBound])
  exact (hab.sub hcab (by norm_num [tapBound]) (by norm_num [tapBound])).1

/-! The invariant and its step. -/

theorem RecursionInv.taps_within {s : State} (ok : configOk s.cfg = true) (hcnt : s.cnt ≤ 800) (h : RecursionInv s) (i : Fin 5) :
    Within tapBound (s.s1.get i) ∧ Within tapBound (s.s2.get i) := by
  obtain ⟨xs, hlen, hxs, htaps⟩ := h.taps
  have hi := htaps i
  split at hi <;> obtain ⟨h1, h2⟩ := Prod.mk.inj hi <;> rw [h1, h2]
  · exact tapsOf_within (coeff_within ok i) (hlen ▸ hcnt) hxs
  · have hzero : Within tapBound F32.zero := within_zero (by norm_num [tapBound])
    exact ⟨hzero, hzero⟩

/-- R88 for a state: at most 800 samples into a block everything held is finite. -/
theorem RecursionInv.finiteInv {s : State} (ok : configOk s.cfg = true) (hcnt : s.cnt ≤ 800) (h : RecursionInv s) :
    FiniteInv s := fun i =>
  ⟨(h.taps_within ok hcnt i).1.1, (h.taps_within ok hcnt i).2.1, h.energies i⟩

theorem isFinite_energies {s : State} (ok : configOk s.cfg = true) (hcnt : s.cnt ≤ 800) (h : RecursionInv s) (i : Fin 5) :
    isFinite ((energies s).get i) = true := by
  rw [energies, perChannel_get]
  split
  · exact isFinite_energy (coeff_within ok i) (h.taps_within ok hcnt i).1 (h.taps_within ok hcnt i).2
  · decide

/-- With the taps cleared and no sample counted, only the energies matter. -/
theorem RecursionInv.of_cleared {s : State} (h1 : s.s1 = Lanes.const F32.zero) (h2 : s.s2 = Lanes.const F32.zero)
    (hcnt : s.cnt = 0) (he : ∀ i, isFinite (s.he.get i) = true) : RecursionInv s := by
  refine ⟨⟨[], hcnt.symm, nofun, fun i => ?_⟩, he⟩
  rw [h1, h2, Lanes.get_const]
  exact (ite_self _).symm

theorem recursionInv_resetOf (c : Config) : RecursionInv (State.resetOf c) :=
  .of_cleared rfl rfl rfl fun i => by
    rw [State.resetOf, Lanes.get_const]
    decide

/-- The invariant reads the taps, the counter, the energies and the configuration. -/
theorem RecursionInv.of_eq {s t : State} (h : RecursionInv s) (h1 : t.s1 = s.s1) (h2 : t.s2 = s.s2) (hcnt : t.cnt = s.cnt)
    (he : t.he = s.he) (hcfg : t.cfg = s.cfg) : RecursionInv t := by
  obtain ⟨htaps, hen⟩ := h
  exact ⟨by simpa only [h1, h2, hcnt, hcfg] using htaps, by simpa only [he] using hen⟩

/-- R83: an accepted sample is one more in the recursion of every channel. -/
theorem RecursionInv.acceptSample {s : State} (h : RecursionInv s) {x : Int} (hx : sampleInRange x = true) :
    RecursionInv (acceptSample x s) := by
  obtain ⟨xs, hlen, hxs, htaps⟩ := h.taps
  refine ⟨⟨xs ++ [x], by simp [hlen], fun y hy => ?_, fun i => ?_⟩, h.energies⟩
  · rcases List.mem_append.mp hy with hy | hy
    · exact hxs y hy
    · exact List.mem_singleton.mp hy ▸ hx
  · have hi := htaps i
    rw [acceptSample_s1, acceptSample_s2, acceptSample_cfg, updateTaps_s1, perChannel_get]
    split at hi <;> obtain ⟨h1, h2⟩ := Prod.mk.inj hi
    · rw [if_pos ‹_›, if_pos ‹_›, tapsOf_concat, ← hi]
    · rw [if_neg ‹_›, if_neg ‹_›, h1]

/-- R85, R86: a completed block clears the taps, and the slot holds its old energies or those of the block. -/
theorem RecursionInv.completeBlock {s : State} (ok : configOk s.cfg = true) (hcnt : s.cnt ≤ 800) (h : RecursionInv s) :
    RecursionInv (completeBlock s) := by
  refine .of_cleared rfl rfl rfl fun i => ?_
  rw [Machine.completeBlock, restartBlock_he, handoff_he]
  split
  · exact h.energies i
  · exact isFinite_energies ok hcnt h i

theorem CommandEffect.recursionInv {i : Instr} {s t : State} (he : CommandEffect i s t) (ok : configOk s.cfg = true)
    (hn : s.cfg.nBlock ≤ 800) (hx : ∀ x, i = .sample x → sampleInRange x = true) (h : RecursionInv s) : RecursionInv t := by
  cases he with
  | nop | discard | sameLevel => exact h
  | accept x => exact h.acceptSample (hx x rfl)
  | complete x _ _ last => exact (h.acceptSample (hx x rfl)).completeBlock ok (last.le.trans hn)
  | switch => exact .of_cleared rfl rfl rfl h.energies
  | read | reserved => exact h.of_eq rfl rfl rfl rfl rfl
  | clear => exact h.of_eq (by simp) (by simp) (by simp) (by simp) (by simp)

/-- R77: the sample field of a word is a 16-bit integer. -/
theorem sampleInRange_of_decode {w : Word} {x : Int} (h : decode w = .ok (.sample x)) : sampleInRange x = true := by
  have hx : x = sampleField w := by
    unfold decode at h
    split_ifs at h <;> simp_all
  subst hx
  have hlo := BitVec.le_toInt (w.extractLsb' 0 16)
  have hhi := BitVec.toInt_lt (x := w.extractLsb' 0 16)
  rw [sampleInRange_iff, sampleField]
  omega

theorem StepEffect.recursionInv {s t : State} (he : StepEffect s t) (ok : configOk s.cfg = true) (hn : s.cfg.nBlock ≤ 800)
    (h : RecursionInv s) : RecursionInv t := by
  cases he with
  | quiescent | illegal => exact h.of_eq rfl rfl rfl rfl rfl
  | analyze => exact h.of_eq (by simp) (by simp) (by simp) (by simp) (by simp)
  | command w i _ _ hd he =>
    exact he.recursionInv ok hn (fun x hx => sampleInRange_of_decode (hx ▸ hd)) (h.of_eq rfl rfl rfl rfl rfl)
  | reset => exact (recursionInv_resetOf s.cfg).of_eq rfl rfl rfl rfl rfl

/-- Settles O59: every step extends the recursion by a sample, restarts it or leaves it alone, and at most 800 samples into a block the
recursion's values are bounded. -/
theorem tapsStayRecursionOutputsAndFinite : Obligations.TapsStayRecursionOutputsAndFinite := by
  intro s t hn hcount hrec h
  have ok := configOk_of_step h
  have hcfg := cfg_of_step h
  have hcount' := (StepEffect.of_step h).countInv hcount
  have hrec' := (StepEffect.of_step h).recursionInv ok hn hrec
  have hcnt : t.cnt ≤ 800 := hcount'.le.trans (hcfg ▸ hn)
  exact ⟨hcount', hrec', hrec'.finiteInv (hcfg ▸ ok) hcnt⟩

/-! The start of every invariant. -/

theorem countedInv_resetOf (c : Config) : CountedInv 0 (State.resetOf c) := by
  constructor <;> simp [State.resetOf]

/-- Settles O53: each invariant at the reset state of any configuration with a meaning, TC among them. -/
theorem invariantAtReset : Obligations.InvariantAtReset := by
  have hreset : ∀ c : Config, configOk c = true →
      Inv (State.resetOf c) ∧ RecursionInv (State.resetOf c) ∧ CountedInv 0 (State.resetOf c) :=
    fun c ok => ⟨inv_resetOf ok, recursionInv_resetOf c, countedInv_resetOf c⟩
  exact ⟨hreset, hreset Config.tc (by decide)⟩

end Sys2Proof.Machine
end

section
/-! PROOF. What a platform and the host see: a word's bytes (R52), register reads (R54), and whose turn a step is (R56 to R58). -/

namespace Sys2Proof

/-- R52: the four bytes of a word, put together again, are the word. -/
theorem wordOfBytes_bytes (w : Word) :
    wordOfBytes (w.extractLsb' 0 8) (w.extractLsb' 8 8) (w.extractLsb' 16 8) (w.extractLsb' 24 8) = w := by
  rw [wordOfBytes, BitVec.extractLsb'_append_extractLsb'_eq_extractLsb' (by rfl),
    BitVec.extractLsb'_append_extractLsb'_eq_extractLsb' (by rfl),
    BitVec.extractLsb'_append_extractLsb'_eq_extractLsb' (by rfl), BitVec.extractLsb'_eq_self]

/-- Settles O6: the decoder takes the four bytes, which make up the word. -/
theorem bytesDecodeLittleEndian : Obligations.BytesDecodeLittleEndian := by
  intro w rest
  cases hd : decode w with
  | ok i => simp [bytesOfWord, decodeBytes, wordOfBytes_bytes, hd]
  | error e => simp [bytesOfWord, decodeBytes, wordOfBytes_bytes, hd]

end Sys2Proof

namespace Sys2Proof.Machine

/-! Whose turn it is. -/

/-- R56 (b), R90: when the next step is an analysis. -/
theorem turn_eq_analyze_iff (s : State) :
    turn s = .analyze ↔ s.hv = true ∧ (s.queue = [] ∨ ∃ p rest, s.queue = p :: rest ∧ p.anFirst = true) := by
  cases hq : s.queue with
  | nil => cases hv : s.hv <;> simp [turn, hq, hv]
  | cons p rest =>
    have hmark : turn s = .analyze ↔ (s.hv && p.anFirst) = true := by
      cases hf : s.hv && p.anFirst with
      | true => simp [turn, hq, hf]
      | false => cases hev : p.event <;> simp [turn, hq, hf, hev]
    simp [hmark]

/-- R56 (a): a word that is due, with no analysis before it, is the next step. -/
theorem turn_eq_command {s : State} {w : Word} {f : Bool} {rest : List Presented}
    (hq : s.queue = { event := .word w, anFirst := f } :: rest) (hf : (s.hv && f) = false) : turn s = .command w := by
  simp [turn, hq, hf]

theorem step_of_turn_analyze {s : State} (ok : configOk s.cfg = true) (tu : turn s = .analyze) :
    step s = execAnalyze (silent s) := by
  simp [step, ok, tu]

theorem step_of_turn_command {s : State} {w : Word} (ok : configOk s.cfg = true) (tu : turn s = .command w) :
    step s = runWord w (consume s) := by
  simp [step, ok, tu]

theorem runWord_of_decode {w : Word} {i : Instr} (hd : decode w = .ok i) (s : State) : runWord w s = exec i s := by
  simp [runWord, hd]

/-- Settles O8: the due word's turn, and the word as the command it decodes to. -/
theorem stepRunsDecodedCommand : Obligations.StepRunsDecodedCommand := by
  intro s w f rest i ok hq hf hd
  rw [step_of_turn_command ok (turn_eq_command hq hf), runWord_of_decode hd, consume, hq, List.tail_cons]

/-- Settles O10: both directions of when the turn is an analysis. -/
theorem analyzeStepNeedsFullSlot : Obligations.AnalyzeStepNeedsFullSlot := fun s ok =>
  ⟨fun tu => ((turn_eq_analyze_iff s).mp tu).1,
    fun hv hq => step_of_turn_analyze ok ((turn_eq_analyze_iff s).mpr ⟨hv, hq⟩)⟩

/-! What a command leaves alone. -/

/-- R58, R86: a command leaves a full slot and its energies alone; a block completed beside it is skipped. -/
theorem CommandEffect.keeps_fullSlot {i : Instr} {s t : State} (h : CommandEffect i s t) (hv : s.hv = true) :
    t.hv = true ∧ t.he = s.he := by
  cases h with
  | nop | discard | sameLevel | accept | switch | read | reserved => exact ⟨hv, rfl⟩
  | complete => simp [completeBlock, acceptSample, hv]
  | clear => simp [hv]

/-- Settles O20: a command's step is no analysis and no reset, so AN's state stands; the slot by the command's effect. -/
theorem commandStepsKeepAnalysisState : Obligations.CommandStepsKeepAnalysisState := by
  intro s t w tu h
  have effect := StepEffect.of_step h
  constructor
  · obtain ⟨ta, -⟩ | ⟨tr, -⟩ | ⟨-, hsame⟩ := effect.analysis_cases
    · simp [tu] at ta
    · simp [tu] at tr
    · exact hsame
  · intro hv
    cases effect with
    | quiescent tq => simp [tu] at tq
    | analyze ta => simp [tu] at ta
    | illegal => exact ⟨hv, rfl⟩
    | command _ _ _ _ _ hc => exact hc.keeps_fullSlot hv
    | reset tr => simp [tu] at tr

/-! Register reads. -/

/-- R54: a register shows the same word after a response. -/
theorem readReg_respond (idx : BitVec 4) (v : Word) (s : State) : readReg idx (respond v s) = readReg idx s := rfl

theorem execRdreg_of_readReg {idx : BitVec 4} {v : Word} {s : State} (h : readReg idx s = some v) :
    execRdreg idx s = .next (respond v s) := by
  simp [execRdreg, h]

/-- Settles O40: a defined index reads some word, and the response to it changes no register. -/
theorem rdregIsIdempotent : Obligations.RdregIsIdempotent := by
  intro s idx hidx
  obtain ⟨v, hv⟩ := Option.ne_none_iff_exists'.mp (mt (readReg_eq_none_iff idx s).mp hidx)
  exact ⟨v, execRdreg_of_readReg hv, execRdreg_of_readReg ((readReg_respond idx v s).trans hv)⟩

end Sys2Proof.Machine
end

section
/-! PROOF. The decoder and the encoder (R66 to R76). A row of the opcode map is an OP value above the bits of an operand, with zeros
between; the words a row admits are the words of its operands, so decoding and encoding undo each other row by row. -/

namespace Sys2Proof

/-! A row, from its OP value and the width of its operand. -/

/-- The row whose words have an OP value, an operand of n bits and no other bit set (R66, R67). The model's rows are such rows, each by
evaluation. -/
def rowOf (op : BitVec 4) (n : Nat) : OpRow := { mask := ~~~(BitVec.allOnes n).setWidth 32, pattern := op.setWidth 32 <<< 28 }

/-- The word of a row's operand: the row's pattern with the operand in its low bits. -/
def rowWord (op : BitVec 4) {n : Nat} (v : BitVec n) : Word := (rowOf op n).pattern ||| v.setWidth 32

section Row
variable (op : BitVec 4) (n : Nat)

theorem getLsbD_pattern {i : Nat} (hi : i < 32) :
    (rowOf op n).pattern.getLsbD i = (!decide (i < 28) && op.getLsbD (i - 28)) := by
  have h : i - 28 < 32 := by omega
  simp [rowOf, hi, h, -BitVec.getLsbD_eq_getElem]

theorem getLsbD_rowWord {n : Nat} (v : BitVec n) {i : Nat} (hi : i < 32) :
    (rowWord op v).getLsbD i = ((rowOf op n).pattern.getLsbD i || v.getLsbD i) := by
  simp [rowWord, hi, -BitVec.getLsbD_eq_getElem]

/-- A row admits the words that agree with its pattern above the operand. -/
theorem rowOf_admits_iff_bits (w : Word) (hn : n ≤ 28 := by decide) :
    (rowOf op n).admits w = true ↔ ∀ i < 32, n ≤ i → w.getLsbD i = (rowOf op n).pattern.getLsbD i := by
  rw [OpRow.admits, beq_iff_eq, BitVec.eq_of_getLsbD_eq_iff]
  refine forall₂_congr fun i hi => ?_
  rw [getLsbD_pattern op n hi]
  by_cases h : n ≤ i
  · simp [rowOf, hi, h, -BitVec.getLsbD_eq_getElem]
  · have h' : i < n := Nat.lt_of_not_le h
    simp [rowOf, hi, h, h', h'.trans_le hn]

theorem rowOf_admits_rowWord (v : BitVec n) (hn : n ≤ 28 := by decide) : (rowOf op n).admits (rowWord op v) = true := by
  rw [rowOf_admits_iff_bits op n _ hn]
  intro i hi h
  rw [getLsbD_rowWord op v hi, BitVec.getLsbD_of_ge v i h, Bool.or_false]

/-- The operand is read back from its word. -/
theorem extractLsb'_rowWord {n : Nat} (v : BitVec n) (hn : n ≤ 28 := by decide) : (rowWord op v).extractLsb' 0 n = v := by
  refine BitVec.eq_of_getLsbD_eq fun i hi => ?_
  have h : i < 28 := hi.trans_le hn
  have hi' : i < 32 := by omega
  rw [BitVec.getLsbD_extractLsb', Nat.zero_add, getLsbD_rowWord op v hi', getLsbD_pattern op n hi']
  simp [hi, h]

/-- A word a row admits is the word of the operand read from it. -/
theorem rowWord_of_admits {w : Word} (h : (rowOf op n).admits w = true) (hn : n ≤ 28 := by decide) :
    rowWord op (w.extractLsb' 0 n) = w := by
  rw [rowOf_admits_iff_bits op n _ hn] at h
  refine BitVec.eq_of_getLsbD_eq fun i hi => ?_
  rw [getLsbD_rowWord op _ hi, BitVec.getLsbD_extractLsb', Nat.zero_add]
  by_cases hl : i < n
  · simp [getLsbD_pattern op n hi, hl, hl.trans_le hn]
  · simp [h i hi (Nat.le_of_not_lt hl), hl]

/-- A row admits the words with its OP value and zeros between OP and the operand (R66, R67). -/
theorem rowOf_admits_iff_fields (w : Word) (hn : n ≤ 28 := by decide) :
    (rowOf op n).admits w = true ↔ w.extractLsb' 28 4 = op ∧ w.extractLsb' n (28 - n) = 0 := by
  rw [rowOf_admits_iff_bits op n w hn, BitVec.eq_of_getLsbD_eq_iff, BitVec.eq_of_getLsbD_eq_iff]
  simp only [BitVec.getLsbD_extractLsb']
  constructor
  · intro h
    constructor
    · intro i hi
      have hi' : 28 + i < 32 := by omega
      simp [h (28 + i) hi' (by omega), getLsbD_pattern op n hi', hi, -BitVec.getLsbD_eq_getElem]
    · intro i hi
      have hi' : n + i < 28 := by omega
      simp [h (n + i) (by omega) (by omega), getLsbD_pattern op n (hi'.trans (by decide)), hi']
  · rintro ⟨hop, hz⟩ i hi h
    rw [getLsbD_pattern op n hi]
    by_cases hi' : i < 28
    · have hj : i - n < 28 - n := by omega
      simpa [hj, Nat.add_sub_cancel' h, hi'] using hz (i - n) hj
    · have hj : i - 28 < 4 := by omega
      simpa [hi', Nat.add_sub_cancel' (Nat.le_of_not_lt hi'), hj, -BitVec.getLsbD_eq_getElem] using hop (i - 28) hj

end Row

/-! The rows of the opcode map, as fields of the word. -/

theorem rowNop_admits_iff (w : Word) : rowNop.admits w = true ↔ w.extractLsb' 28 4 = 0#4 ∧ w.extractLsb' 0 28 = 0#28 :=
  rowOf_admits_iff_fields 0#4 0 w

theorem rowSample_admits_iff (w : Word) : rowSample.admits w = true ↔ w.extractLsb' 28 4 = 1#4 ∧ w.extractLsb' 16 12 = 0#12 :=
  rowOf_admits_iff_fields 1#4 16 w

theorem rowSeten_admits_iff (w : Word) : rowSeten.admits w = true ↔ w.extractLsb' 28 4 = 2#4 ∧ w.extractLsb' 1 27 = 0#27 :=
  rowOf_admits_iff_fields 2#4 1 w

theorem rowRdreg_admits_iff (w : Word) : rowRdreg.admits w = true ↔ w.extractLsb' 28 4 = 3#4 ∧ w.extractLsb' 4 24 = 0#24 :=
  rowOf_admits_iff_fields 3#4 4 w

theorem rowClrst_admits_iff (w : Word) : rowClrst.admits w = true ↔ w.extractLsb' 28 4 = 4#4 ∧ w.extractLsb' 2 26 = 0#26 :=
  rowOf_admits_iff_fields 4#4 2 w

/-- R67: every row's mask covers OP, so a word that a row admits has the row's OP. -/
theorem opField_of_admits {r : OpRow} {w : Word} (hr : r ∈ opRows) (h : r.admits w = true) :
    opField w = opField r.pattern := by
  have hmask : ∀ q ∈ opRows, opField q.mask = BitVec.allOnes 4 := by decide
  rw [OpRow.admits, beq_iff_eq] at h
  rw [← h, opField, opField, BitVec.extractLsb'_and, ← opField, ← opField, hmask r hr, BitVec.and_allOnes]

/-- Settles O4: the two rows have the word's OP, and no two rows have the same. -/
theorem opcodeRowsDisjoint : Obligations.OpcodeRowsDisjoint := by
  intro w r q hr hq hrw hqw
  have distinct : ∀ r ∈ opRows, ∀ q ∈ opRows, opField r.pattern = opField q.pattern → r = q := by decide
  exact distinct r hr q hq ((opField_of_admits hr hrw).symm.trans (opField_of_admits hq hqw))

/-- A word that one row admits is refused by any other. -/
theorem admits_eq_false {r : OpRow} {w : Word} (q : OpRow) (h : r.admits w = true) (hne : q ≠ r := by decide)
    (hr : r ∈ opRows := by decide) (hq : q ∈ opRows := by decide) : q.admits w = false :=
  Bool.eq_false_iff.mpr fun h' => hne (opcodeRowsDisjoint w q r hq hr h' h)

/-! The decoder, row by row. -/

theorem decode_of_rowNop {w : Word} (h : rowNop.admits w = true) : decode w = .ok .nop := by simp [decode, h]

theorem decode_of_rowSample {w : Word} (h : rowSample.admits w = true) : decode w = .ok (.sample (sampleField w)) := by
  simp [decode, h, admits_eq_false rowNop h]

theorem decode_of_rowSeten {w : Word} (h : rowSeten.admits w = true) : decode w = .ok (.seten (enableField w)) := by
  simp [decode, h, admits_eq_false rowNop h, admits_eq_false rowSample h]

theorem decode_of_rowRdreg {w : Word} (h : rowRdreg.admits w = true) : decode w = .ok (.rdreg (indexField w)) := by
  simp [decode, h, admits_eq_false rowNop h, admits_eq_false rowSample h, admits_eq_false rowSeten h]

theorem decode_of_rowClrst {w : Word} (h : rowClrst.admits w = true) : decode w = .ok (.clrst (clearField w)) := by
  simp [decode, h, admits_eq_false rowNop h, admits_eq_false rowSample h, admits_eq_false rowSeten h,
    admits_eq_false rowRdreg h]

/-- R73: the decoder rejects a word when no row admits it. -/
theorem decode_eq_error_iff (w : Word) : (∃ e, decode w = .error e) ↔ ∀ r ∈ opRows, ¬r.admits w = true := by
  unfold decode
  split_ifs <;> simp_all [opRows]

/-! The encoder: a command's word is its row's word of its operand (R68 to R72). -/

theorem encode_nop : encode .nop = rowWord 0#4 0#0 := rfl
theorem encode_sample (x : Int) : encode (.sample x) = rowWord 1#4 (BitVec.ofInt 16 x) := rfl
theorem encode_seten (e : Bool) : encode (.seten e) = rowWord 2#4 (BitVec.ofBool e) := rfl
theorem encode_rdreg (idx : BitVec 4) : encode (.rdreg idx) = rowWord 3#4 idx := rfl
theorem encode_clrst (m : BitVec 2) : encode (.clrst m) = rowWord 4#4 m := rfl

theorem ofBool_enableField (w : Word) : BitVec.ofBool (enableField w) = w.extractLsb' 0 1 := by
  ext i hi
  obtain rfl : i = 0 := by omega
  simp [enableField]

/-- R76: the word of a command it can carry decodes to the command. -/
theorem decode_encode {i : Instr} (hwf : i.wf = true) : decode (encode i) = .ok i := by
  cases i with
  | nop => exact decode_of_rowNop rfl
  | sample x =>
    obtain ⟨hlo, hhi⟩ := (Machine.sampleInRange_iff x).mp hwf
    rw [encode_sample, decode_of_rowSample (rowOf_admits_rowWord 1#4 16 _), sampleField, extractLsb'_rowWord 1#4 _,
      BitVec.toInt_ofInt_eq_self (by decide) hlo (Int.lt_add_one_of_le hhi)]
  | seten e =>
    rw [encode_seten, decode_of_rowSeten (rowOf_admits_rowWord 2#4 1 _)]
    cases e <;> rfl
  | rdreg idx =>
    rw [encode_rdreg, decode_of_rowRdreg (rowOf_admits_rowWord 3#4 4 _), indexField, extractLsb'_rowWord 3#4 _]
  | clrst m =>
    rw [encode_clrst, decode_of_rowClrst (rowOf_admits_rowWord 4#4 2 _), clearField, extractLsb'_rowWord 4#4 _]

theorem decodeTableWord_of_decode {w : Word} {i : Instr} (hd : decode w = .ok i) : decodeTableWord 32 w.toNat = some i := by
  have hbytes : decodeBytes (bytesOfWord w) = .ok (i, []) := by simpa [hd] using bytesDecodeLittleEndian w []
  rw [decodeTableWord, Nat.mod_eq_of_lt w.isLt, BitVec.ofNat_toNat, BitVec.setWidth_eq, hbytes]

/-- Settles O1: the word decodes by its row, and the table decoder reads the word's bytes. -/
theorem decodeEncodeRoundTrip : Obligations.DecodeEncodeRoundTrip := fun _ hwf =>
  ⟨decode_encode hwf, decodeTableWord_of_decode (decode_encode hwf)⟩

/-- R67: no bit of a word that decodes is dropped. -/
theorem encode_of_decode {w : Word} {i : Instr} (h : decode w = .ok i) : encode i = w := by
  unfold decode at h
  split_ifs at h with hn hs he hr hc <;> injection h with h <;> subst h
  · exact (congrArg (rowWord 0#4) (BitVec.eq_nil _).symm).trans (rowWord_of_admits 0#4 0 hn)
  · rw [encode_sample, sampleField, BitVec.ofInt_toInt]
    exact rowWord_of_admits 1#4 16 hs
  · rw [encode_seten, ofBool_enableField]
    exact rowWord_of_admits 2#4 1 he
  · exact rowWord_of_admits 3#4 4 hr
  · exact rowWord_of_admits 4#4 2 hc

theorem wf_of_decode {w : Word} {i : Instr} (h : decode w = .ok i) : i.wf = true := by
  cases i with
  | sample x => exact Machine.sampleInRange_of_decode h
  | nop | seten | rdreg | clrst => rfl

/-- Settles O2: a word its row admits is the word of the operand read from it. -/
theorem encodeDecodeRoundTrip : Obligations.EncodeDecodeRoundTrip := fun _ _ h => ⟨wf_of_decode h, encode_of_decode h⟩

/-- Settles O3: the decoder, run on each of the words. -/
theorem writtenOutWordsDecode : Obligations.WrittenOutWordsDecode := ⟨rfl, rfl, rfl, rfl, rfl, rfl⟩

end Sys2Proof

namespace Sys2Proof.Machine

/-! ILLEGAL words. -/

theorem runWord_of_error {w : Word} {e : Illegal} (hd : decode w = .error e) (s : State) :
    runWord w s = .next (recordError illegalCmd s) := by
  simp [runWord, hd, execIllegal]

/-- R132: whatever the word, the block goes on. -/
theorem runWord_answers (w : Word) (s : State) : ∃ t, runWord w s = .next t := by
  cases hd : decode w with
  | ok i => exact runWord_of_decode hd s ▸ exec_answers i s
  | error e => exact ⟨_, runWord_of_error hd s⟩

/-- R67: OP is reserved, or it is one row's. -/
theorem op_reserved_or_row (op : BitVec 4) :
    (5 ≤ op.toNat ∧ op ≠ 0#4 ∧ op ≠ 1#4 ∧ op ≠ 2#4 ∧ op ≠ 3#4 ∧ op ≠ 4#4) ∨
      op = 0#4 ∨ op = 1#4 ∨ op = 2#4 ∨ op = 3#4 ∨ op = 4#4 := by
  revert op
  decide

/-- Settles O5: a word is ILLEGAL when none of the five rows admits it, that is by OP alone or by the zeros OP's row asks for. -/
theorem illegalWordsRecordErrorOne : Obligations.IllegalWordsRecordErrorOne := by
  intro w s
  refine ⟨?_, fun ⟨_, hd⟩ => runWord_of_error hd s, runWord_answers w s⟩
  simp only [decode_eq_error_iff, opRows, List.forall_mem_cons, List.not_mem_nil, false_implies, implies_true, and_true,
    rowNop_admits_iff, rowSample_admits_iff, rowSeten_admits_iff, rowRdreg_admits_iff, rowClrst_admits_iff]
  obtain ⟨h5, h⟩ | h | h | h | h | h := op_reserved_or_row (w.extractLsb' 28 4)
  · simp only [h, h5, true_or, false_and, not_false_eq_true, and_self]
  all_goals simp [h]

end Sys2Proof.Machine
end

section
/-! PROOF. The assembler (R78, R79): how each operand is read, what a row of tokens with a number becomes, and the words a line emits. -/

namespace Sys2Proof.Machine

/-! Operands. -/

theorem readBelow_of_number {v : String} {k : Int} (h : readOperand v = some k) (bound : Nat) :
    readBelow bound v = if 0 ≤ k ∧ k < bound then some k.toNat else none := by
  simp [readBelow, h]

theorem readCount_of_number {v : String} {k : Int} (h : readOperand v = some k) :
    readCount v = if 0 ≤ k then some k.toNat else none := by
  simp [readCount, h]

theorem readSample_of_number {v : String} {k : Int} (h : readOperand v = some k) :
    readSample v = if -32768 ≤ k ∧ k ≤ 32767 then some k else none := by
  simp [readSample, h, sampleInRange_iff]

theorem sampleInRange_of_readSample {v : String} {x : Int} (h : readSample v = some x) : sampleInRange x = true := by
  cases hk : readOperand v with
  | none => simp [readSample, hk] at h
  | some k =>
    rw [readSample_of_number hk] at h
    split_ifs at h with hr
    obtain rfl := Option.some.inj h
    exact (sampleInRange_iff k).mpr hr

theorem readRegister_of_not_name {v : String} (h : ∀ p ∈ regNames, v ≠ p.1) :
    readRegister v = (readBelow 16 v).map (BitVec.ofNat 4) := by
  have hl : regNames.lookup v = none := List.lookup_eq_none_iff.mpr fun p hp => bne_iff_ne.mpr (h p hp)
  rw [readRegister, hl]

/-- No register name is a number. -/
theorem readOperand_regNames : ∀ p ∈ regNames, readOperand p.1 = none := by decide

/-! The rows of tokens with one operand. -/

theorem parseTokens_sample (v : String) :
    parseTokens ["SAMPLE", v] = (readSample v).map fun x => .command (.sample x) := rfl
theorem parseTokens_seten (v : String) :
    parseTokens ["SETEN", v] = (readBelow 2 v).map fun e => .command (.seten (e == 1)) := rfl
theorem parseTokens_rdreg (v : String) :
    parseTokens ["RDREG", v] = (readRegister v).map fun r => .command (.rdreg r) := rfl
theorem parseTokens_clrst (v : String) :
    parseTokens ["CLRST", v] = (readBelow 4 v).map fun m => .command (.clrst (BitVec.ofNat 2 m)) := rfl
theorem parseTokens_word (v : String) :
    parseTokens [".word", v] = (readBelow (2 ^ 32) v).map fun w => .word (BitVec.ofNat 32 w) := rfl
theorem parseTokens_rep (v : String) : parseTokens [".rep", v] = (readCount v).map .rep := rfl
theorem parseTokens_silence (v : String) : parseTokens [".silence", v] = (readCount v).map .silence := rfl

theorem parseTokens_rdreg_name : ∀ p ∈ regNames, parseTokens ["RDREG", p.1] = some (.command (.rdreg p.2)) := by decide

section Number
variable {v : String} {k : Int} (h : readOperand v = some k)
include h

/-- A number read below a bound, as a field of n bits; `InRange` is the range as R78 writes it. -/
theorem map_ofNat_readBelow {α : Type} (bound n : Nat) (f : BitVec n → α) {InRange : Prop} [Decidable InRange]
    (hr : 0 ≤ k ∧ k < bound ↔ InRange) :
    ((readBelow bound v).map fun m => f (BitVec.ofNat n m)) = if InRange then some (f (BitVec.ofInt n k)) else none := by
  simp only [readBelow_of_number h, ← hr]
  split_ifs with hk
  · rw [Option.map_some, ← BitVec.ofInt_natCast, Int.toNat_of_nonneg hk.1]
  · rfl

theorem parseTokens_sample_number :
    parseTokens ["SAMPLE", v] = if -32768 ≤ k ∧ k ≤ 32767 then some (.command (.sample k)) else none := by
  rw [parseTokens_sample, readSample_of_number h]
  split <;> rfl

theorem parseTokens_seten_number :
    parseTokens ["SETEN", v] =
      if k = 0 then some (.command (.seten false)) else if k = 1 then some (.command (.seten true)) else none := by
  rw [parseTokens_seten, readBelow_of_number h]
  obtain rfl | rfl | hk : k = 0 ∨ k = 1 ∨ ¬(0 ≤ k ∧ k < (2 : ℕ)) := by omega
  · rfl
  · rfl
  · rw [if_neg hk, if_neg (by omega), if_neg (by omega), Option.map_none]

theorem parseTokens_rdreg_number :
    parseTokens ["RDREG", v] = if 0 ≤ k ∧ k ≤ 15 then some (.command (.rdreg (BitVec.ofInt 4 k))) else none := by
  have hname : ∀ p ∈ regNames, v ≠ p.1 := by
    rintro p hp rfl
    simp [readOperand_regNames p hp] at h
  rw [parseTokens_rdreg, readRegister_of_not_name hname, Option.map_map]
  exact map_ofNat_readBelow h 16 4 (fun r => AsmLine.command (.rdreg r)) (by omega)

theorem parseTokens_clrst_number :
    parseTokens ["CLRST", v] = if 0 ≤ k ∧ k ≤ 3 then some (.command (.clrst (BitVec.ofInt 2 k))) else none :=
  map_ofNat_readBelow h 4 2 (fun m => AsmLine.command (.clrst m)) (by omega)

theorem parseTokens_word_number :
    parseTokens [".word", v] = if 0 ≤ k ∧ k < 2 ^ 32 then some (.word (BitVec.ofInt 32 k)) else none :=
  map_ofNat_readBelow h (2 ^ 32) 32 AsmLine.word (by omega)

theorem parseTokens_rep_number : parseTokens [".rep", v] = if 0 ≤ k then some (.rep k.toNat) else none := by
  rw [parseTokens_rep, readCount_of_number h]
  split <;> rfl

theorem parseTokens_silence_number : parseTokens [".silence", v] = if 0 ≤ k then some (.silence k.toNat) else none := by
  rw [parseTokens_silence, readCount_of_number h]
  split <;> rfl

end Number

theorem parseTokens_not_number {v : String} (h : readOperand v = none) :
    ∀ m ∈ ["SAMPLE", "SETEN", "CLRST", ".word", ".rep", ".silence"], parseTokens [m, v] = none := by
  simp [parseTokens_sample, parseTokens_seten, parseTokens_clrst, parseTokens_word, parseTokens_rep, parseTokens_silence,
    readSample, readBelow, readCount, h]

theorem parseTokens_rdreg_not_number {v : String} (h : readOperand v = none) (hname : ∀ p ∈ regNames, v ≠ p.1) :
    parseTokens ["RDREG", v] = none := by
  simp [parseTokens_rdreg, readRegister_of_not_name hname, readBelow, h]

/-- A command that is read has a word: only SAMPLE's operand has a type wider than its field. -/
theorem wf_of_parseTokens {ts : List String} {i : Instr} (h : parseTokens ts = some (.command i)) : i.wf = true := by
  cases i with
  | sample x =>
    revert h
    fun_cases parseTokens ts
    case case3 v =>
      intro h
      exact sampleInRange_of_readSample (by simpa using h)
    all_goals simp
  | nop | seten | rdreg | clrst => rfl

/-! The test tones (R79). -/

theorem toneSample_mem (c : Fin 5) (k : Nat) : toneSample c k ∈ toneTable c := by
  have hpos : ∀ c, 0 < (toneTable c).length := by decide
  have hlt := Nat.mod_lt k (hpos c)
  rw [toneSample, List.getD_eq_getElem _ _ hlt]
  exact List.getElem_mem hlt

theorem toneSample_bounded (c : Fin 5) (k : Nat) : -1000 ≤ toneSample c k ∧ toneSample c k ≤ 1000 := by
  have h : ∀ c, ∀ x ∈ toneTable c, -1000 ≤ x ∧ x ≤ 1000 := by decide
  exact h c _ (toneSample_mem c k)

theorem toneValue_inRange (c1 : Fin 5) (c2 : Option (Fin 5)) (k : Nat) : sampleInRange (toneValue c1 c2 k) = true := by
  rw [sampleInRange_iff]
  have h1 := toneSample_bounded c1 k
  cases c2 with
  | none =>
    rw [toneValue]
    omega
  | some c =>
    have h2 := toneSample_bounded c k
    rw [toneValue]
    omega

/-! The words of a line. -/

theorem length_lineWords_tone (c1 : Fin 5) (c2 : Option (Fin 5)) (n : Nat) : (lineWords (.tone c1 c2 n)).length = n := by
  simp [lineWords]

theorem getElem?_lineWords_tone (c1 : Fin 5) (c2 : Option (Fin 5)) {n k : Nat} (hk : k < n) :
    (lineWords (.tone c1 c2 n))[k]? = some (encode (.sample (toneValue c1 c2 k))) := by
  simp [lineWords, hk]

/-- A line of a well-formed command, or of a directive other than `.word`, emits the words of well-formed commands. -/
theorem decode_of_mem_lineWords {a : AsmLine} (hc : ∀ i, a = .command i → i.wf = true) (hw : ∀ v, a ≠ .word v) {w : Word}
    (h : w ∈ lineWords a) : ∃ i, i.wf = true ∧ encode i = w ∧ decode w = .ok i := by
  suffices hi : ∃ i : Instr, i.wf = true ∧ encode i = w by
    obtain ⟨i, hwf, rfl⟩ := hi
    exact ⟨i, hwf, rfl, decode_encode hwf⟩
  cases a with
  | command i => exact ⟨i, hc i rfl, (List.mem_singleton.mp h).symm⟩
  | word v => exact absurd rfl (hw v)
  | tone c1 c2 n =>
    obtain ⟨k, -, hk⟩ := List.mem_map.mp h
    exact ⟨.sample (toneValue c1 c2 k), toneValue_inRange c1 c2 k, hk⟩
  | silence n => exact ⟨.sample 0, rfl, (List.eq_of_mem_replicate h).symm⟩
  | blank | rep | endr | analyze | eager | lazy => simp [lineWords] at h

/-- Settles O7: by what each operand reads as, by the only command whose operand has to be checked, and by the bound of the tones. -/
theorem assembledWordsDecode : Obligations.AssembledWordsDecode := by
  refine ⟨fun v k h => ?_, fun v h => ?_, parseTokens_rdreg_name, fun l a h => ?_, fun c1 c2 n k => ?_⟩
  · exact ⟨parseTokens_sample_number h, parseTokens_seten_number h, parseTokens_rdreg_number h, parseTokens_clrst_number h,
      parseTokens_word_number h, parseTokens_rep_number h, parseTokens_silence_number h⟩
  · exact ⟨parseTokens_not_number h, parseTokens_rdreg_not_number h⟩
  · have hwf : ∀ i, a = .command i → i.wf = true := fun i hi => wf_of_parseTokens (hi ▸ h)
    exact ⟨hwf, fun hw w => decode_of_mem_lineWords hwf hw⟩
  · have hx := toneValue_inRange c1 c2 k
    exact ⟨hx, length_lineWords_tone c1 c2 n, fun hk => ⟨_, getElem?_lineWords_tone c1 c2 hk, decode_encode (i := .sample _) hx⟩⟩

end Sys2Proof.Machine
end

section
/-! PROOF. The sample path (R80 to R89): what SAMPLE does to the state, that its operand converts exactly (R81), and that every run keeps
the values it computes finite (R88). -/

namespace Sys2Proof.Machine

open Sys2Proof.F32

/-! What SAMPLE does, by the branch it takes. -/

theorem execSample_of_disabled {s : State} (hen : s.en = false) (x : Int) : execSample x s = .next s := by
  simp [execSample, hen]

theorem execSample_of_accept {s : State} (hen : s.en = true) (hcnt : s.cnt + 1 ≠ s.cfg.nBlock) (x : Int) :
    execSample x s = .next (acceptSample x s) := by
  simp [execSample, hen, hcnt]

theorem execSample_of_complete {s : State} (hen : s.en = true) (hcnt : s.cnt + 1 = s.cfg.nBlock) (x : Int) :
    execSample x s = .next (completeBlock (acceptSample x s)) := by
  simp [execSample, hen, hcnt]

/-- Settles O25: SAMPLE looks at nothing but `en` then. -/
theorem disabledSampleDiscarded : Obligations.DisabledSampleDiscarded := fun x _ hen => execSample_of_disabled hen x

/-- Settles O27: the accepted sample's state, field by field, is the one written out. -/
theorem sampleUpdatesEveryChannel : Obligations.SampleUpdatesEveryChannel := fun x _ hen hcnt =>
  execSample_of_accept hen hcnt x

/-- R87: the energies of a block, from taps given channel by channel. -/
theorem energies_acceptSample {x : Int} {s : State} {n1 e : Lanes F32}
    (hn1 : ∀ i : Fin 5, n1.get i = channelUpdate (coeff s.cfg i) (s.s1.get i) (s.s2.get i) (sampleValue x))
    (he : ∀ i : Fin 5, e.get i = if i.val < s.cfg.nch then energy (coeff s.cfg i) (n1.get i) (s.s1.get i) else F32.zero) :
    energies (acceptSample x s) = e := by
  refine Lanes.ext_get fun i => ?_
  rw [he i, energies, perChannel_get, acceptSample_cfg]
  split
  · rw [acceptSample_s1, acceptSample_s2, updateTaps_s1, perChannel_get, if_pos ‹_›, hn1]
  · rfl

/-- Settles O28: the energies go where R86 sends them, and the block boundary clears the taps. -/
theorem sampleCompletesBlock : Obligations.SampleCompletesBlock := by
  intro x s n1 e hen hcnt hn1 he
  have hrun : exec (.sample x) s = .next (completeBlock (acceptSample x s)) := execSample_of_complete hen hcnt x
  rw [hrun, completeBlock, energies_acceptSample hn1 he]
  constructor <;> intro hv
  · rw [handoff, if_neg (by simpa [acceptSample] using hv)]
    rfl
  · rw [handoff, if_pos (by simpa [acceptSample] using hv)]
    rfl

/-! R89: the lanes are independent. -/

/-- Two states that agree in what SAMPLE reads outside the lanes, and in one lane. -/
structure AgreeIn (i : Fin 5) (s u : State) : Prop where
  cfg : s.cfg = u.cfg
  hv : s.hv = u.hv
  s1 : s.s1.get i = u.s1.get i
  s2 : s.s2.get i = u.s2.get i
  he : s.he.get i = u.he.get i

theorem AgreeIn.acceptSample {i : Fin 5} {s u : State} (h : AgreeIn i s u) (x : Int) :
    AgreeIn i (acceptSample x s) (acceptSample x u) := by
  refine ⟨h.cfg, h.hv, ?_, h.s1, h.he⟩
  simp only [acceptSample_s1, updateTaps_s1, perChannel_get, h.cfg, h.s1, h.s2]

theorem AgreeIn.completeBlock {i : Fin 5} {s u : State} (h : AgreeIn i s u) :
    AgreeIn i (completeBlock s) (completeBlock u) := by
  refine ⟨by simpa using h.cfg, by simp [Machine.completeBlock], rfl, rfl, ?_⟩
  simp only [Machine.completeBlock, restartBlock_he, handoff_he, h.hv]
  split
  · exact h.he
  · simp only [energies, perChannel_get, h.cfg, h.s1, h.s2]

/-- Settles O29: both states take the same branch of SAMPLE, and every branch keeps the agreement. -/
theorem channelsAreIndependent : Obligations.ChannelsAreIndependent := by
  intro x s u i hcfg hen hcnt hv h1 h2 he
  have agree : AgreeIn i s u := ⟨hcfg, hv, h1, h2, he⟩
  suffices h : ∃ t v, execSample x s = .next t ∧ execSample x u = .next v ∧ AgreeIn i t v by
    obtain ⟨t, v, ht, hu, htv⟩ := h
    exact ⟨t, v, ht, hu, htv.s1, htv.s2, htv.he⟩
  obtain ⟨hs, e⟩ | ⟨hs, hb, e⟩ | ⟨hs, hb, e⟩ := execSample_cases x s <;> rw [hen] at hs
  · exact ⟨_, _, e, execSample_of_disabled hs x, agree⟩
  · rw [hcnt, hcfg] at hb
    exact ⟨_, _, e, execSample_of_accept hs hb x, agree.acceptSample x⟩
  · rw [hcnt, hcfg] at hb
    exact ⟨_, _, e, execSample_of_complete hs hb x, (agree.acceptSample x).completeBlock⟩

/-! R81: the conversion of a sample. -/

/-- A number of units with a binary32 value's significand is its own rounding. -/
theorem scaled_round_exact (neg : Bool) {n f e : Nat} (hf : f < 2 ^ 24) (hn : n = f * 2 ^ e)
    (hlt : n < (2 ^ 25 - 1) * 2 ^ 252) :
    isFinite (F32.round neg n 1) = true ∧ scaled (F32.round neg n 1) = signed neg n := by
  obtain ⟨hfin, hscaled⟩ := scaled_round neg one_pos (by rwa [mul_one])
  have hnear := (significand_nearest n one_pos (x := n) hf hn).1
  refine ⟨hfin, hscaled.trans (congrArg _ ?_)⟩
  push_cast
  omega

/-- A magnitude of at most `2 ^ 24` has a binary32 value's significand. -/
theorem exists_significand {a : Nat} (h : a ≤ 2 ^ 24) : ∃ f e : Nat, f < 2 ^ 24 ∧ a = f * 2 ^ e := by
  rcases lt_or_eq_of_le h with hlt | rfl
  · exact ⟨a, 0, hlt, by simp⟩
  · exact ⟨1, 24, by decide, by simp⟩

/-- Settles O26: the integer's units are a significand at a power of two, which rounding leaves alone. -/
theorem sampleConversionExact : Obligations.SampleConversionExact := by
  intro x hlo hhi
  obtain ⟨f, e, hf, hx⟩ := exists_significand (a := x.natAbs) (by omega)
  have hbound : x.natAbs * 2 ^ 149 < (2 ^ 25 - 1) * 2 ^ 252 := by omega
  obtain ⟨hfin, hscaled⟩ := scaled_round_exact (decide (x < 0)) hf (e := e + 149)
    (by rw [hx, pow_add, mul_assoc]) hbound
  rw [sampleValue, F32.ofInt, one_eq]
  refine ⟨hfin, hscaled.trans ?_⟩
  rw [Nat.cast_mul, ← signed_mul, signed_natAbs]
  rfl

/-! R88 over runs. -/

/-- What every state of a run meets with N_BLOCK at most 800: the step invariants of R48 items 1 and 9. -/
theorem Reachable.recursionInv {s : State} (r : Reachable s) (hn : s.cfg.nBlock ≤ 800) :
    configOk s.cfg = true ∧ CountInv s ∧ RecursionInv s := by
  induction r with
  | init c ok => exact ⟨ok, nBlock_pos ok, recursionInv_resetOf c⟩
  | more s ps _ ih =>
    obtain ⟨ok, hcount, hrec⟩ := ih hn
    exact ⟨ok, hcount, hrec.of_eq rfl rfl rfl rfl rfl⟩
  | step s t _ st ih =>
    have hcfg := cfg_of_step st
    rw [hcfg] at hn
    obtain ⟨ok, hcount, hrec⟩ := ih hn
    obtain ⟨hcount', hrec', -⟩ := tapsStayRecursionOutputsAndFinite s t hn hcount hrec st
    exact ⟨hcfg ▸ ok, hcount', hrec'⟩

/-- Settles O56: in every state of a run the taps are outputs of the recursion on fewer than 800 samples. -/
theorem everyRunStaysFinite : Obligations.EveryRunStaysFinite := by
  intro s hn r
  obtain ⟨ok, hcount, hrec⟩ := r.recursionInv hn
  exact hrec.finiteInv ok (hcount.le.trans hn)

end Sys2Proof.Machine
end

section
/-! PROOF. The coefficients (R82, log entry 10). At `x = 2 cos θ` the scaled Chebyshev values are `sin (k θ)` up to a positive factor, so
counting their sign changes counts the multiples of π that `k θ` passes, and the count places `x` against `2 cos (2 π p / q)`. The
search by halving then ends at a key whose neighbours' midpoints lie on either side of that number. -/

namespace Sys2Proof.Machine

open Sys2Proof.F32

/-! Sign changes. -/

/-- Of the positive multiples of π, just the first M lie below `x`. -/
def PassedPi (M : ℕ) (x : ℝ) : Prop := M * Real.pi < x ∧ x ≤ (M + 1) * Real.pi

/-- Between two multiples of π the sine has the sign of the first one's parity. -/
theorem sin_between {M : ℕ} {x : ℝ} (hlo : M * Real.pi < x) (hhi : x < (M + 1) * Real.pi) :
    Real.sin x ≠ 0 ∧ (0 < Real.sin x ↔ Even M) := by
  have hpos : 0 < Real.sin (x - M * Real.pi) := Real.sin_pos_of_pos_of_lt_pi (by linarith) (by linarith)
  rw [Real.sin_sub_nat_mul_pi] at hpos
  rcases Nat.even_or_odd M with hM | hM
  · rw [hM.neg_one_pow, one_mul] at hpos
    exact ⟨hpos.ne', by simp [hpos, hM]⟩
  · rw [hM.neg_one_pow] at hpos
    exact ⟨by linarith, iff_of_false (by linarith) (Nat.not_even_iff_odd.mpr hM)⟩

/-- Two consecutive scaled Chebyshev values at `2 cos θ`, with d the scale: `sin (k θ)` and `sin ((k + 1) θ)` up to a positive factor. -/
def ChebyshevPair (d : ℕ) (θ : ℝ) (k : ℕ) (prev cur : ℤ) : Prop :=
  ∃ c : ℝ, 0 < c ∧ prev = c * Real.sin (k * θ) ∧ cur = c * d * Real.sin ((k + 1 : ℕ) * θ)

/-- The recursion `W_{n+1} = m W_n - d^2 W_{n-1}` is that of the sines of the multiples of θ. -/
theorem ChebyshevPair.next {d : ℕ} {θ : ℝ} {k : ℕ} {m prev cur : ℤ} (hd : 0 < d) (hm : (m : ℝ) = d * (2 * Real.cos θ))
    (h : ChebyshevPair d θ k prev cur) : ChebyshevPair d θ (k + 1) cur (m * cur - (d * d : ℕ) * prev) := by
  obtain ⟨c, hc, hprev, hcur⟩ := h
  refine ⟨c * d, by positivity, hcur, ?_⟩
  have hsum : Real.sin ((k + 1 + 1 : ℕ) * θ) = 2 * Real.cos θ * Real.sin ((k + 1 : ℕ) * θ) - Real.sin (k * θ) := by
    have hnext := Real.sin_add ((k + 1 : ℕ) * θ) θ
    have hlast := Real.sin_sub ((k + 1 : ℕ) * θ) θ
    rw [show ((k + 1 : ℕ) * θ) - θ = k * θ by push_cast; ring] at hlast
    rw [show ((k + 1 + 1 : ℕ) : ℝ) * θ = (k + 1 : ℕ) * θ + θ by push_cast; ring]
    linarith
  rw [hsum]
  push_cast at hcur ⊢
  rw [hprev, hcur, hm]
  ring

/-- The values start with `W_0 = 1` and `W_1 = m`. -/
theorem ChebyshevPair.start {d : ℕ} {θ : ℝ} {m : ℤ} (hm : (m : ℝ) = d * (2 * Real.cos θ)) (hsin : 0 < Real.sin θ) :
    ChebyshevPair d θ 1 1 m := by
  refine ⟨(Real.sin θ)⁻¹, inv_pos.mpr hsin, ?_, ?_⟩
  · rw [Nat.cast_one, one_mul, inv_mul_cancel₀ hsin.ne', Int.cast_one]
  · rw [show ((1 + 1 : ℕ) : ℝ) * θ = 2 * θ by norm_num, Real.sin_two_mul, hm]
    field_simp

/-- The second value of a pair has the sign of its sine. -/
theorem ChebyshevPair.sign {d : ℕ} {θ : ℝ} {k : ℕ} {prev cur : ℤ} (hd : 0 < d) (h : ChebyshevPair d θ k prev cur) :
    (cur = 0 ↔ Real.sin ((k + 1 : ℕ) * θ) = 0) ∧ (0 < cur ↔ 0 < Real.sin ((k + 1 : ℕ) * θ)) := by
  obtain ⟨c, hc, -, hcur⟩ := h
  have hcd : 0 < c * d := by positivity
  rw [← Int.cast_eq_zero (α := ℝ), ← Int.cast_pos (R := ℝ), hcur]
  exact ⟨mul_eq_zero_iff_left hcd.ne', mul_pos_iff_of_pos_left hcd⟩

section
variable {d : ℕ} {θ : ℝ} {m : ℤ} (hd : 0 < d) (hθ : 0 < θ) (hπ : θ < Real.pi) (hm : (m : ℝ) = d * (2 * Real.cos θ))
include hd hθ hπ hm

/-- A sign change is counted just where the next multiple of θ passes a multiple of π; a multiple that is hit is a zero, which is
skipped. -/
theorem passedPi_signChanges (n : ℕ) {k M : ℕ} {prev cur : ℤ} {pos : Bool} (h : ChebyshevPair d θ k prev cur)
    (hM : PassedPi M (k * θ)) (hpos : pos = true ↔ Even M) :
    PassedPi (M + signChanges m d n prev cur pos) ((k + n : ℕ) * θ) := by
  induction n generalizing k M prev cur pos with
  | zero => exact hM
  | succ n ih =>
    obtain ⟨hlo, hhi⟩ := hM
    have hnext := h.next hd hm
    obtain ⟨hzero, hsign⟩ := h.sign hd
    have hstep : ((k + 1 : ℕ) : ℝ) * θ = k * θ + θ := by push_cast; ring
    rw [show k + (n + 1) = k + 1 + n by omega]
    simp only [signChanges]
    rcases lt_trichotomy (((k + 1 : ℕ) : ℝ) * θ) ((M + 1) * Real.pi) with hlt | heq | hgt
    · obtain ⟨hne, heven⟩ := sin_between (by linarith) hlt
      have hsame : decide (0 < cur) = pos := by rw [Bool.eq_iff_iff, decide_eq_true_iff, hsign, heven, hpos]
      rw [if_neg (mt hzero.mp hne), if_pos hsame]
      exact ih hnext ⟨by linarith, hlt.le⟩ hpos
    · have hsin : Real.sin ((k + 1 : ℕ) * θ) = 0 := by
        rw [heq]
        exact_mod_cast Real.sin_nat_mul_pi (M + 1)
      rw [if_pos (hzero.mpr hsin)]
      exact ih hnext ⟨by linarith, heq.le⟩ hpos
    · have hpassed : PassedPi (M + 1) ((k + 1 : ℕ) * θ) := by
        constructor <;> push_cast at hstep hgt ⊢ <;> linarith
      obtain ⟨hne, heven⟩ := sin_between hpassed.1 (by push_cast at hstep ⊢; linarith)
      have hodd : (!pos) = true ↔ Even (M + 1) := by rw [Bool.not_eq_true', ← Bool.not_eq_true, hpos, Nat.even_add_one]
      have hflip : decide (0 < cur) = !pos := by rw [Bool.eq_iff_iff, decide_eq_true_iff, hsign, heven, hodd]
      rw [if_neg (mt hzero.mp hne), if_neg (by simp [hflip]), Nat.add_comm _ 1, ← Nat.add_assoc]
      exact ih hnext hpassed hodd

/-- The count of sign changes places `q θ` among the multiples of π. -/
theorem le_signChanges_iff {q : ℕ} (hq : 0 < q) (j : ℕ) :
    j ≤ signChanges m d (q - 1) 1 m true ↔ j * Real.pi < q * θ := by
  have hstart : PassedPi 0 ((1 : ℕ) * θ) := by constructor <;> push_cast <;> linarith
  obtain ⟨hlo, hhi⟩ := passedPi_signChanges hd hθ hπ hm (q - 1)
    (.start hm (Real.sin_pos_of_pos_of_lt_pi hθ hπ)) hstart (iff_of_true rfl Even.zero)
  rw [zero_add, Nat.add_sub_cancel' hq] at hlo hhi
  constructor
  · intro h
    have hcast : (j : ℝ) ≤ signChanges m d (q - 1) 1 m true := by exact_mod_cast h
    exact (mul_le_mul_of_nonneg_right hcast Real.pi_pos.le).trans_lt hlo
  · intro h
    have hlt := lt_of_mul_lt_mul_right (h.trans_le hhi) Real.pi_pos.le
    exact Nat.lt_succ_iff.mp (by exact_mod_cast hlt)

end

/-! The comparison with `2 cos (2 π p / q)`. -/

/-- A fraction of an integer and a natural number in lowest terms. -/
theorem intCast_div_gcd (m : ℤ) {d : ℕ} (hd : 0 < d) :
    ((m / (Nat.gcd m.natAbs d : ℕ) : ℤ) : ℝ) = (d / Nat.gcd m.natAbs d : ℕ) * ((m : ℝ) / d) := by
  have hg : 0 < Nat.gcd m.natAbs d := Nat.gcd_pos_of_pos_right _ hd
  rw [Int.cast_div (Int.natCast_dvd.mpr (Nat.gcd_dvd_left _ _)) (by exact_mod_cast hg.ne'),
    Nat.cast_div (Nat.gcd_dvd_right _ _) (by exact_mod_cast hg.ne'), Int.cast_natCast]
  field_simp

/-- The comparison of a fraction in (-2, 2): with the fraction written `2 cos θ`, the 2p-th multiple of π lies below `q θ` just when
`2 π p / q` lies below θ. -/
theorem belowTwoCos_iff {p q : ℕ} (hpq : 2 * p < q) {m : ℤ} {d : ℕ} (hd : 0 < d) (hm : m.natAbs < 2 * d) :
    belowTwoCos p q m d = true ↔ (m : ℝ) / d < 2 * Real.cos (2 * Real.pi * (p / q)) := by
  have hq : (0 : ℝ) < q := by exact_mod_cast Nat.zero_lt_of_lt hpq
  have hpq' : 2 * (p : ℝ) ≤ q := by exact_mod_cast hpq.le
  have hx : |(m : ℝ) / d / 2| < 1 := by
    have habs : |(m : ℝ)| < d * 2 := by
      rw [← Int.cast_abs, Int.abs_eq_natAbs, mul_comm]
      exact_mod_cast hm
    rwa [div_div, abs_div, abs_of_pos (show (0 : ℝ) < d * 2 by positivity), div_lt_one (by positivity)]
  obtain ⟨hlo, hhi⟩ := abs_lt.mp hx
  have hcos : (m : ℝ) / d = 2 * Real.cos (Real.arccos ((m : ℝ) / d / 2)) := by
    rw [Real.cos_arccos hlo.le hhi.le]
    ring
  have hθ : 0 < Real.arccos ((m : ℝ) / d / 2) := Real.arccos_pos.mpr hhi
  have hπ : Real.arccos ((m : ℝ) / d / 2) < Real.pi := Real.arccos_lt_pi.mpr hlo
  generalize Real.arccos ((m : ℝ) / d / 2) = θ at hcos hθ hπ
  have hreduced := intCast_div_gcd m hd
  rw [hcos] at hreduced ⊢
  rw [belowTwoCos, decide_eq_true_iff, le_signChanges_iff (Nat.div_gcd_pos_of_pos_right _ hd) hθ hπ hreduced
    (Nat.zero_lt_of_lt hpq), mul_lt_mul_iff_right₀ two_pos, Real.strictAntiOn_cos.lt_iff_gt ⟨hθ.le, hπ.le⟩]
  · rw [mul_div_assoc', div_lt_iff₀ hq, Nat.cast_mul, Nat.cast_two, mul_comm θ, mul_right_comm]
  · constructor
    · positivity
    · rw [mul_div_assoc', div_le_iff₀ hq]
      nlinarith [Real.pi_pos]

/-! Keys. -/

/-- Any magnitude's bits are a spacing exponent and a significand as `roundMag` writes them, with room for the next significand. -/
theorem exists_fields (b : ℕ) : ∃ k q : ℕ, b = k * 2 ^ 23 + q ∧ q < 2 ^ 24 ∧ (k = 0 ∨ 2 ^ 23 ≤ q) := by
  rcases Nat.lt_or_ge b (2 ^ 23) with h | h
  · exact ⟨0, b, by omega, by omega, .inl rfl⟩
  · exact ⟨b / 2 ^ 23 - 1, b % 2 ^ 23 + 2 ^ 23, by omega, by omega, .inr (by omega)⟩

/-- The next bits are the next magnitude. -/
theorem mag_withSign_lt_succ (s t : Bool) {b : ℕ} (hb : b + 1 < infBits) : mag (withSign s b) < mag (withSign t (b + 1)) := by
  obtain ⟨k, q, rfl, hq, hk⟩ := exists_fields b
  rw [Nat.add_assoc] at hb ⊢
  rw [mag_withSign s (by omega) hq.le hk, mag_withSign t hb hq (by omega)]
  exact Nat.mul_lt_mul_of_pos_right (Nat.lt_succ_self q) (Nat.two_pow_pos k)

theorem mag_withSign_lt (s t : Bool) {b c : ℕ} (h : b < c) (hc : c < infBits) : mag (withSign s b) < mag (withSign t c) := by
  induction c, h using Nat.le_induction generalizing t with
  | base => exact mag_withSign_lt_succ s t hc
  | succ c _ ih => exact (ih t (by omega)).trans (mag_withSign_lt_succ t t hc)

theorem mag_withSign_zero (s : Bool) : mag (withSign s 0) = 0 := by cases s <;> decide

theorem scaled_ofKey (k : ℤ) : scaled (ofKey k) = signed (decide (k < 0)) (mag (ofKey k)) := by
  rw [scaled_eq_signed, ofKey, sign_withSign]

/-- The keys are in the order of their values. -/
theorem scaled_ofKey_lt {j k : ℤ} (h : j < k) (hj : -infBits < j) (hk : k < infBits) :
    scaled (ofKey j) < scaled (ofKey k) := by
  rw [scaled_ofKey, scaled_ofKey, ofKey, ofKey]
  rcases lt_or_ge k 0 with hk0 | hk0
  · have := mag_withSign_lt (decide (k < 0)) (decide (j < 0)) (b := k.natAbs) (c := j.natAbs) (by omega) (by omega)
    simp only [decide_eq_true hk0, decide_eq_true (h.trans hk0), signed_true] at this ⊢
    omega
  rw [decide_eq_false (not_lt.mpr hk0), signed_false]
  rcases lt_or_ge j 0 with hj0 | hj0
  · have := mag_withSign_lt false true (b := 0) (c := j.natAbs) (by omega) (by omega)
    rw [mag_withSign_zero] at this
    rw [decide_eq_true hj0, signed_true]
    omega
  · have := mag_withSign_lt false false (b := j.natAbs) (c := k.natAbs) (by omega) (by omega)
    rw [decide_eq_false (not_lt.mpr hj0), signed_false]
    omega

theorem scaled_ofKey_le {j k : ℤ} (h : j ≤ k) (hj : -infBits < j) (hk : k < infBits) :
    scaled (ofKey j) ≤ scaled (ofKey k) := by
  rcases h.lt_or_eq with h | rfl
  · exact (scaled_ofKey_lt h hj hk).le
  · exact le_rfl

/-- Every finite value has the number of some key: -0.0 that of the key of +0.0. -/
theorem exists_key {w : F32} (hw : isFinite w = true) : ∃ k : ℤ, k.natAbs < infBits ∧ scaled w = scaled (ofKey k) := by
  have hexpo := expo_eq w
  have hfrac := frac_eq w
  have hbits : w.toNat % 2 ^ 31 < infBits := by
    rw [isFinite, bne_iff_ne] at hw
    rw [infBits]
    omega
  have hmag (s : Bool) : mag (withSign s (w.toNat % 2 ^ 31)) = mag w := by
    have he : expo (withSign s (w.toNat % 2 ^ 31)) = expo w := by rw [expo_withSign s hbits]; omega
    have hf : frac (withSign s (w.toNat % 2 ^ 31)) = frac w := by rw [frac_withSign s hbits]; omega
    rw [mag, mag, he, hf]
  refine ⟨signed (sign w) (w.toNat % 2 ^ 31 : ℕ), by rwa [natAbs_signed], ?_⟩
  rw [scaled_ofKey, ofKey, natAbs_signed, Int.natAbs_natCast, hmag, scaled_eq_signed]
  cases sign w with
  | false => rw [signed_false, signed_false, decide_eq_false (by omega), signed_false]
  | true =>
    rw [signed_true, signed_true]
    rcases Nat.eq_zero_or_pos (w.toNat % 2 ^ 31) with h0 | h0
    · rw [← hmag false, h0, mag_withSign_zero]
      rfl
    · rw [decide_eq_true (by omega), signed_true]

/-! The search. -/

/-- The search ends between two keys of which the target rounds up to the lower but not to the upper, or at an end of its range. -/
theorem searchKey_boundary (p q n : ℕ) {lo hi : ℤ} (h : lo < hi) (hn : hi - lo ≤ 2 ^ n) :
    (searchKey p q n lo hi = lo ∨ roundsUpTo p q (searchKey p q n lo hi) = true) ∧
      (searchKey p q n lo hi + 1 = hi ∨ roundsUpTo p q (searchKey p q n lo hi + 1) = false) := by
  induction n generalizing lo hi with
  | zero => exact ⟨.inl rfl, .inl (by simp only [searchKey]; omega)⟩
  | succ n ih =>
    rw [pow_succ] at hn
    simp only [searchKey]
    split
    · exact ⟨.inl rfl, .inl (by omega)⟩
    split
    · rename_i hmid
      obtain ⟨hlow, hup⟩ := ih (lo := (lo + hi) / 2) (hi := hi) (by omega) (by omega)
      exact ⟨.inr (hlow.elim (fun heq => heq.symm ▸ hmid) id), hup⟩
    · rename_i hmid
      obtain ⟨hlow, hup⟩ := ih (lo := lo) (hi := (lo + hi) / 2) (by omega) (by omega)
      exact ⟨hlow, .inr (hup.elim (fun heq => heq.symm ▸ Bool.eq_false_iff.mpr hmid) id)⟩

/-! The nearest key. -/

theorem realOf_ofKey_le {j k : ℤ} (h : j ≤ k) (hj : -infBits < j) (hk : k < infBits) :
    realOf (ofKey j) ≤ realOf (ofKey k) := by
  rw [realOf, realOf]
  exact div_le_div_of_nonneg_right (by exact_mod_cast scaled_ofKey_le h hj hk) (by positivity)

theorem scaled_ofKey_keyTwo : scaled (ofKey keyTwo) = 2 ^ 150 ∧ scaled (ofKey (-keyTwo)) = -2 ^ 150 := by decide

theorem realOf_ofKey_keyTwo : realOf (ofKey keyTwo) = 2 ∧ realOf (ofKey (-keyTwo)) = -2 := by
  rw [realOf, realOf, scaled_ofKey_keyTwo.1, scaled_ofKey_keyTwo.2]
  constructor <;> norm_num

/-- The test of the search compares the midpoint of two neighbouring values in [-2, 2] with the target. -/
theorem roundsUpTo_iff {p q : ℕ} (hpq : 2 * p < q) {k : ℤ} (hlo : -keyTwo < k) (hhi : k ≤ keyTwo) :
    roundsUpTo p q k = true ↔
      realOf (ofKey (k - 1)) + realOf (ofKey k) < 2 * (2 * Real.cos (2 * Real.pi * (p / q))) := by
  have hinf : keyTwo < infBits := by decide
  have hbound : (scaled (ofKey (k - 1)) + scaled (ofKey k)).natAbs < 2 * 2 ^ 150 := by
    have h1 := scaled_ofKey_le (j := -keyTwo) (k := k - 1) (by omega) (by omega) (by omega)
    have h2 := scaled_ofKey_lt (j := k - 1) (k := k) (by omega) (by omega) (by omega)
    have h3 := scaled_ofKey_le (j := k) (k := keyTwo) hhi (by omega) hinf
    rw [scaled_ofKey_keyTwo.2] at h1
    rw [scaled_ofKey_keyTwo.1] at h3
    omega
  rw [roundsUpTo, show F32.one <<< 1 = 2 ^ 150 by decide, belowTwoCos_iff hpq (by positivity) hbound, realOf, realOf]
  push_cast
  constructor <;> intro h <;> linarith

/-- The value of a key is nearest to a number that no midpoint with another key's value separates from it. -/
theorem nearest_of_midpoints {X : ℝ} {k : ℤ}
    (hlo : ∀ j : ℤ, -infBits < j → j < k → realOf (ofKey j) ≤ realOf (ofKey k) ∧ realOf (ofKey j) + realOf (ofKey k) ≤ 2 * X)
    (hhi : ∀ j : ℤ, k < j → j < infBits → realOf (ofKey k) ≤ realOf (ofKey j) ∧ 2 * X ≤ realOf (ofKey k) + realOf (ofKey j))
    {w : F32} (hw : isFinite w = true) : |realOf (ofKey k) - X| ≤ |realOf w - X| := by
  obtain ⟨j, hj, hwj⟩ := exists_key hw
  rw [show realOf w = realOf (ofKey j) by rw [realOf, hwj, realOf]]
  rcases lt_trichotomy j k with h | rfl | h
  · obtain ⟨hle, hmid⟩ := hlo j (by omega) h
    rw [abs_sub_comm (realOf (ofKey j)), abs_le]
    constructor <;> linarith [le_abs_self (X - realOf (ofKey j))]
  · exact le_rfl
  · obtain ⟨hle, hmid⟩ := hhi j h (by omega)
    rw [abs_le]
    constructor <;> linarith [le_abs_self (realOf (ofKey j) - X)]

/-- R82: the key the search ends at is nearest to `2 cos (2 π p / q)`. -/
theorem searchKey_nearest {p q : ℕ} (hpq : 2 * p < q) {w : F32} (hw : isFinite w = true) :
    |realOf (ofKey (searchKey p q 33 (-keyTwo) (keyTwo + 1))) - 2 * Real.cos (2 * Real.pi * (p / q))|
      ≤ |realOf w - 2 * Real.cos (2 * Real.pi * (p / q))| := by
  have hinf : keyTwo < infBits := by decide
  obtain ⟨hmin, hmax⟩ := searchKey_mem p q 33 (show -keyTwo < keyTwo + 1 by decide)
  obtain ⟨hlow, hup⟩ := searchKey_boundary p q 33 (show -keyTwo < keyTwo + 1 by decide) (by decide)
  generalize searchKey p q 33 (-keyTwo) (keyTwo + 1) = k at hmin hmax hlow hup
  refine nearest_of_midpoints (fun j hj hjk => ?_) (fun j hkj hj => ?_) hw
  · have hle := realOf_ofKey_le hjk.le hj (by omega)
    refine ⟨hle, ?_⟩
    rcases hmin.eq_or_lt with rfl | hmin
    · rw [realOf_ofKey_keyTwo.2] at hle ⊢
      linarith [Real.neg_one_le_cos (2 * Real.pi * (p / q))]
    · have hbelow := (roundsUpTo_iff hpq hmin (by omega)).mp (hlow.resolve_left hmin.ne')
      linarith [realOf_ofKey_le (j := j) (k := k - 1) (by omega) hj (by omega)]
  · have hle := realOf_ofKey_le hkj.le (by omega) hj
    refine ⟨hle, ?_⟩
    rcases eq_or_ne k keyTwo with rfl | hne
    · rw [realOf_ofKey_keyTwo.1] at hle ⊢
      linarith [Real.cos_le_one (2 * Real.pi * (p / q))]
    · have habove := mt (roundsUpTo_iff hpq (k := k + 1) (by omega) (by omega)).mpr
        (Bool.eq_false_iff.mp (hup.resolve_left (by omega)))
      rw [add_sub_cancel_right] at habove
      linarith [realOf_ofKey_le (j := k + 1) (k := j) (by omega) (by omega) hj]

/-- F / FS as the quotient of naturals the search takes, before and after it is brought to lowest terms. -/
theorem natCast_div_gcd_ratio (f fs : Ratio) :
    ((f.num * fs.den / Nat.gcd (f.num * fs.den) (f.den * fs.num) : ℕ) : ℝ)
        / (f.den * fs.num / Nat.gcd (f.num * fs.den) (f.den * fs.num) : ℕ)
      = ((f.num : ℝ) / f.den) / ((fs.num : ℝ) / fs.den) := by
  rw [Nat.cast_div_div_div_cancel_right (Nat.gcd_dvd_right _ _) (Nat.gcd_dvd_left _ _), Nat.cast_mul, Nat.cast_mul,
    div_div_div_eq]

/-- Settles O34: F / FS in lowest terms is below a half, and the search ends at the nearest key. -/
theorem derivedCoefficientIsNearest : Obligations.DerivedCoefficientIsNearest := by
  intro f fs hs hfreq
  refine ⟨(deriveCoeff_within f fs).1, fun w hw => ?_⟩
  simp only [freqOk, Bool.and_eq_true, decide_eq_true_eq] at hfreq
  obtain ⟨⟨hnum, hden⟩, hhalf⟩ := hfreq
  have hpq : 2 * (f.num * fs.den / Nat.gcd (f.num * fs.den) (f.den * fs.num))
      < f.den * fs.num / Nat.gcd (f.num * fs.den) (f.den * fs.num) := by
    rw [Nat.lt_div_iff_mul_lt_of_dvd (Nat.gcd_pos_of_pos_left _ (Nat.mul_pos hnum hs)).ne' (Nat.gcd_dvd_right _ _),
      mul_assoc, Nat.div_mul_cancel (Nat.gcd_dvd_left _ _), ← mul_assoc, mul_comm f.den]
    exact hhalf
  have hnear := searchKey_nearest hpq hw
  rw [natCast_div_gcd_ratio] at hnear
  exact hnear

/-- 95 section 1: the coefficients TC lists are those R82 derives. -/
theorem coeff_tc_eq_deriveCoeff : ∀ i, coeff Config.tc i = deriveCoeff (Config.tc.f.get i) Config.tc.fs := by decide

/-- Settles O35: each listed coefficient is the derived one. -/
theorem testConfigurationCoefficientsAreNearest : Obligations.TestConfigurationCoefficientsAreNearest := by
  intro i w hw
  have hfreq : ∀ i, freqOk Config.tc.fs (Config.tc.f.get i) = true := by decide
  have hnear := (derivedCoefficientIsNearest (Config.tc.f.get i) Config.tc.fs (by decide) (hfreq i)).2 w hw
  rw [coeff_tc_eq_deriveCoeff]
  simpa [Config.tc] using hnear

end Sys2Proof.Machine
end

section
/-! PROOF. NORMALIZE (R92 to R94): the range is the difference of a greatest and a least energy, it is zero exactly when the two are
equal, and every output is clamped. -/

namespace Sys2Proof.F32

open Sys2Proof.Machine

/-! A difference of finite values is an exact zero or one rounding of units that are not zero. -/

theorem roundMag_pos {n : Nat} (hn : 0 < n) : 0 < roundMag n 1 := by
  rw [roundMag_eq, lt_min_iff]
  refine ⟨?_, by decide⟩
  rcases Nat.eq_zero_or_pos (spacing n 1) with hk | hk
  · simpa [significand, hk, rne, Nat.mod_one] using hn
  · omega

theorem mag_withSign_ne_zero (neg : Bool) {b : Nat} (hpos : 0 < b) (hb : b ≤ infBits) : mag (withSign neg b) ≠ 0 := by
  rcases Nat.lt_or_eq_of_le hb with hlt | rfl
  · exact Nat.ne_zero_of_lt (mag_withSign_lt neg neg hpos hlt)
  · cases neg <;> decide

/-- Rounding keeps a whole number of units other than 0 away from 0: it underflows to no zero. -/
theorem scaled_round_ne_zero (neg : Bool) {n : Nat} (hn : 0 < n) : scaled (round neg n 1) ≠ 0 := by
  rw [← Int.natAbs_ne_zero, natAbs_scaled]
  exact mag_withSign_ne_zero neg (roundMag_pos hn) (min_le_right _ _)

theorem sub_of_finite {a b : F32} (ha : isFinite a = true) (hb : isFinite b = true) :
    sub a b = addFinite a (negate b) := add_of_finite ha ((isFinite_negate b).trans hb)

/-- R13: a difference that is not zero depends on the operands' values only, not on the sign of a zero among them. -/
theorem sub_of_scaled_ne {a b : F32} (ha : isFinite a = true) (hb : isFinite b = true) (h : scaled a ≠ scaled b) :
    sub a b = round (decide (scaled a - scaled b < 0)) (scaled a - scaled b).natAbs 1 := by
  rw [sub_of_finite ha hb, addFinite, scaled_negate, ← sub_eq_add_neg]
  exact if_neg (sub_ne_zero.mpr h)

/-- R13: the difference of two finite values is numerically zero exactly when they are numerically equal. -/
theorem eq_sub_zero_iff {a b : F32} (ha : isFinite a = true) (hb : isFinite b = true) :
    eq (sub a b) zero = true ↔ scaled a = scaled b := by
  constructor
  · intro heq
    by_contra hne
    have hdiff := scaled_round_ne_zero (decide (scaled a - scaled b < 0)) (Int.natAbs_pos.mpr (sub_ne_zero.mpr hne))
    rw [← sub_of_scaled_ne ha hb hne] at hdiff
    simp only [eq, Bool.and_eq_true, decide_eq_true_eq] at heq
    exact hdiff heq.2
  · intro h
    have hzero : scaled a + scaled (negate b) = 0 := by rw [scaled_negate]; omega
    rw [sub_of_finite ha hb, addFinite, if_pos hzero]
    cases (sign a && sign (negate b)) <;> decide

/-! A chain of `max_f` or `min_f` gives one of its operands, greatest or least among them. -/

/-- An operation that gives, of two finite operands, one that is at least as high as both in an order of the values. -/
def Picks (key : F32 → Int) (op : F32 → F32 → F32) : Prop :=
  ∀ a b, isFinite a = true → isFinite b = true → (op a b = a ∨ op a b = b) ∧ key a ≤ key (op a b) ∧ key b ≤ key (op a b)

theorem lt_of_finite {a b : F32} (ha : isFinite a = true) (hb : isFinite b = true) :
    lt a b = true ↔ scaled a < scaled b := by
  simp [lt, isNaN_of_finite ha, isNaN_of_finite hb]

theorem picks_maxF : Picks scaled maxF := by
  intro a b ha hb
  unfold maxF
  split
  case isTrue h => exact ⟨.inr rfl, ((lt_of_finite ha hb).mp h).le, le_rfl⟩
  case isFalse h => exact ⟨.inl rfl, le_rfl, not_lt.mp (mt (lt_of_finite ha hb).mpr h)⟩

theorem picks_minF : Picks (fun a => -scaled a) minF := by
  intro a b ha hb
  unfold minF
  split
  case isTrue h => exact ⟨.inr rfl, neg_le_neg ((lt_of_finite hb ha).mp h).le, le_rfl⟩
  case isFalse h => exact ⟨.inl rfl, le_rfl, neg_le_neg (not_lt.mp (mt (lt_of_finite hb ha).mpr h))⟩

theorem Picks.chain_mem_and_le {key : F32 → Int} {op : F32 → F32 → F32} (h : Picks key op) (e : F32) (es : List F32)
    (hfin : ∀ x ∈ e :: es, isFinite x = true) :
    chain op (e :: es) ∈ e :: es ∧ ∀ x ∈ e :: es, key x ≤ key (chain op (e :: es)) := by
  induction es using List.reverseRecOn with
  | nil => simp [chain]
  | append_singleton es last ih =>
    have hlast : chain op (e :: (es ++ [last])) = op (chain op (e :: es)) last := by
      simp [chain]
    rw [← List.cons_append, List.forall_mem_append, List.forall_mem_singleton] at hfin
    obtain ⟨hmem, hmax⟩ := ih hfin.1
    obtain ⟨hpick, hprev, hnew⟩ := h _ last (hfin.1 _ hmem) hfin.2
    rw [hlast, ← List.cons_append, List.forall_mem_append, List.forall_mem_singleton, List.mem_append,
      List.mem_singleton]
    exact ⟨hpick.imp (fun hp => by rwa [hp]) id, fun x hx => (hmax x hx).trans hprev, hnew⟩

end Sys2Proof.F32

namespace Sys2Proof.Machine

open Sys2Proof.F32

theorem mem_channelList {α : Type} (c : Config) (l : Lanes α) (x : α) :
    x ∈ channelList c l ↔ ∃ i : Fin 5, i.val < c.nch ∧ l.get i = x := by
  have hlanes : l.toList = List.ofFn l.get := by simp [Lanes.toList, List.ofFn_succ]
  rw [channelList, hlanes, List.mem_take_iff_getElem]
  constructor
  · rintro ⟨i, hi, rfl⟩
    simp only [List.length_ofFn, lt_min_iff] at hi
    exact ⟨⟨i, hi.2⟩, hi.1, (List.getElem_ofFn _).symm⟩
  · rintro ⟨i, hi, rfl⟩
    exact ⟨i, by simp [hi], List.getElem_ofFn _⟩

/-- Of finite energies, the range is the difference of two channels' energies that are greatest and least among the channels. -/
theorem exists_range (c : Config) {e : Lanes F32} (hfin : ∀ i, isFinite (e.get i) = true) (hnch : 0 < c.nch) :
    ∃ a b : Fin 5, a.val < c.nch ∧ b.val < c.nch ∧ rangeOf c e = F32.sub (e.get a) (e.get b) ∧
      ∀ i : Fin 5, i.val < c.nch → scaled (e.get i) ≤ scaled (e.get a) ∧ scaled (e.get b) ≤ scaled (e.get i) := by
  have hall : ∀ x ∈ channelList c e, isFinite x = true := by
    intro x hx
    obtain ⟨i, -, rfl⟩ := (mem_channelList c e x).mp hx
    exact hfin i
  obtain ⟨first, others, hlist⟩ := List.exists_cons_of_ne_nil
    (List.ne_nil_of_mem ((mem_channelList c e (e.get 0)).mpr ⟨0, hnch, rfl⟩))
  rw [hlist] at hall
  obtain ⟨hmx, hmax⟩ := picks_maxF.chain_mem_and_le first others hall
  obtain ⟨hmn, hmin⟩ := picks_minF.chain_mem_and_le first others hall
  rw [← hlist] at hmx hmax hmn hmin
  obtain ⟨a, ha, hea⟩ := (mem_channelList c e _).mp hmx
  obtain ⟨b, hb, heb⟩ := (mem_channelList c e _).mp hmn
  refine ⟨a, b, ha, hb, by rw [rangeOf, hea, heb], fun i hi => ?_⟩
  have hmem := (mem_channelList c e _).mpr ⟨i, hi, rfl⟩
  rw [hea, heb]
  exact ⟨hmax _ hmem, neg_le_neg_iff.mp (hmin _ hmem)⟩

/-- R93: the range of finite energies is zero exactly when the channels' energies are all equal. -/
theorem rangeOf_eq_zero_iff (c : Config) {e : Lanes F32} (hfin : ∀ i, isFinite (e.get i) = true) :
    F32.eq (rangeOf c e) F32.zero = true ↔
      ∀ i j : Fin 5, i.val < c.nch → j.val < c.nch → scaled (e.get i) = scaled (e.get j) := by
  rcases Nat.eq_zero_or_pos c.nch with hnch | hnch
  · have hrange : rangeOf c e = F32.sub F32.zero F32.zero := by simp [rangeOf, channelList, hnch, chain]
    rw [hrange, hnch]
    exact ⟨fun _ _ _ hi => absurd hi (Nat.not_lt_zero _), fun _ => by decide⟩
  · obtain ⟨a, b, ha, hb, hrange, hbounds⟩ := exists_range c hfin hnch
    rw [hrange, eq_sub_zero_iff (hfin a) (hfin b)]
    constructor
    · intro heq i j hi hj
      have hi' := hbounds i hi
      have hj' := hbounds j hj
      omega
    · exact fun h => h a b ha hb

theorem normalize_of_range_zero {c : Config} {e : Lanes F32} (h : F32.eq (rangeOf c e) F32.zero = true) (i : Fin 5) :
    (normalize c e).get i = 0 := by
  simp [normalize, h]

theorem normalize_of_range_ne {c : Config} {e : Lanes F32} (h : ¬F32.eq (rangeOf c e) F32.zero = true) (i : Fin 5) :
    (normalize c e).get i = if i.val < c.nch then normalizeOne c.normScale (meanOf c e) (rangeOf c e) (e.get i) else 0 := by
  simp only [normalize, if_neg h, perChannel_get]

/-- Settles O43: the range is the rounded difference of a greatest and a least energy, which rounds to zero only from zero. -/
theorem equalEnergiesNormalizeToZero : Obligations.EqualEnergiesNormalizeToZero := fun c _ hfin =>
  ⟨rangeOf_eq_zero_iff c hfin, fun h => normalize_of_range_zero ((rangeOf_eq_zero_iff c hfin).mpr h)⟩

/-- R92: with the five channels, the range is the difference of any greatest and any least energy that differ: the one `max_f` and
`min_f` find has the same value. -/
theorem rangeOf_eq_sub {c : Config} {e : Lanes F32} {a b : Fin 5} (hnch : c.nch = 5) (hfin : ∀ i, isFinite (e.get i) = true)
    (ha : ∀ i, scaled (e.get i) ≤ scaled (e.get a)) (hb : ∀ i, scaled (e.get b) ≤ scaled (e.get i))
    (hlt : scaled (e.get b) < scaled (e.get a)) : rangeOf c e = F32.sub (e.get a) (e.get b) := by
  obtain ⟨a', b', -, -, hrange, hbounds⟩ := exists_range c hfin (by omega)
  have hmax : scaled (e.get a') = scaled (e.get a) := le_antisymm (ha a') (hbounds a (by omega)).1
  have hmin : scaled (e.get b') = scaled (e.get b) := le_antisymm (hbounds b (by omega)).2 (hb b')
  rw [hrange, sub_of_scaled_ne (hfin a') (hfin b') (by omega), sub_of_scaled_ne (hfin a) (hfin b) hlt.ne', hmax, hmin]

/-- Settles O44: the range is not zero and is the difference of the energies the statement names. -/
theorem normalizeFormula : Obligations.NormalizeFormula := by
  intro c e a b hnch hfin ha hb hlt i
  have hrange := rangeOf_eq_sub hnch hfin ha hb hlt
  have hne : ¬F32.eq (rangeOf c e) F32.zero = true := by
    rw [hrange, eq_sub_zero_iff (hfin a) (hfin b)]
    exact hlt.ne'
  rw [normalize_of_range_ne hne, if_pos (by omega), hrange, meanOf_all hnch]
  rfl

/-- Settles O45: a zero range gives 0, and any other output is clamped. -/
theorem normalizeStaysInScale : Obligations.NormalizeStaysInScale := normalize_bounded

end Sys2Proof.Machine
end

section
/-! PROOF. The parts of ANALYZE (R95 to R112): what one analysis leaves in each field AN owns, the decay of a strength under silence,
and the independence of the two decisions. -/

namespace Sys2Proof.Machine

/-! What an analysis leaves, in terms of the state in which it decides on a push. -/

section BeforePush

variable (norm : Lanes F32 → Lanes Int) (s : State)

@[simp] theorem beforePush_cfg : (beforePush norm s).cfg = s.cfg := rfl
theorem beforePush_sym : (beforePush norm s).sym = symbolOf s.cfg (tonePattern (smoothAll (norm s.he) s)) := rfl
theorem beforePush_sinceValid : (beforePush norm s).sinceValid =
    if (beforePush norm s).sym = Symbol.none then satInc s.sinceValid s.cfg.noneTimeout else 0 := rfl
theorem beforePush_sincePush : (beforePush norm s).sincePush = satInc s.sincePush s.cfg.debounce := rfl

@[simp] theorem analyzeWith_sym : (analyzeWith norm s).sym = (beforePush norm s).sym := maybePush_sym _
@[simp] theorem analyzeWith_sinceValid : (analyzeWith norm s).sinceValid = (beforePush norm s).sinceValid :=
  maybePush_sinceValid _
@[simp] theorem analyzeWith_h : (analyzeWith norm s).h = (maybePush (beforePush norm s)).h := rfl
@[simp] theorem analyzeWith_sincePush : (analyzeWith norm s).sincePush = (maybePush (beforePush norm s)).sincePush := rfl

theorem analyzeWith_seqMatch : (analyzeWith norm s).seqMatch = ((analyzeWith norm s).h == s.cfg.seq) := by
  simp [analyzeWith_eq_beforePush]

end BeforePush

/-- Settles O42: no part of an analysis writes what CMD owns, and its completion empties the slot and counts. -/
theorem analysisCompletes : Obligations.AnalysisCompletes := by
  intro s
  refine ⟨_, rfl, analyzeWith_hv _ s, ?_, ?_, analyzeWith_cfg _ s, analyzeWith_rsp _ s, analyzeWith_responses _ s,
    analyzeWith_queue _ s⟩
  · rw [analyzeWith_anacnt, BitVec.ofNat_add, BitVec.ofNat_toNat, BitVec.setWidth_eq]
    rfl
  · constructor <;> simp

theorem history_eq_iff (a b : History) : a = b ↔ a.h0 = b.h0 ∧ a.h1 = b.h1 ∧ a.h2 = b.h2 := by
  cases a
  cases b
  simp

/-- Settles O51: the flag compares the whole history after the push with SEQ. -/
theorem matchFlagComparesHistory : Obligations.MatchFlagComparesHistory := by
  intro s
  refine ⟨_, rfl, ?_⟩
  rw [analyzeWith_seqMatch, beq_iff_eq, history_eq_iff]

/-! The envelope (R95). -/

theorem analyzeWith_y_get (norm : Lanes F32 → Lanes Int) (s : State) (i : Fin 5) :
    (analyzeWith norm s).y.get i = if i.val < s.cfg.nch then smooth s.cfg (s.y.get i) ((norm s.he).get i) else 0 := by
  rw [analyzeWith_y, smoothAll_y, perChannel_get]

/-- Settles O46: each strength is filtered in its own lane. -/
theorem envelopeFiltersEveryStrength : Obligations.EnvelopeFiltersEveryStrength := by
  intro s _
  refine ⟨_, rfl, fun i => analyzeWith_y_get _ s i, fun hnch hhist hnew hshift i => ?_⟩
  rw [analyzeWith_y_get, if_pos (by omega), smooth, tdiv, hhist, hnew, hshift]
  rfl

/-- A strength under silence loses magnitude: `W_HIST |y|` is less than `2^W_SHIFT |y|`. -/
theorem natAbs_smooth_silence_lt {c : Config} (hw : c.wHist < 2 ^ c.wShift) {y : Int} (hy : y ≠ 0) :
    (smooth c y 0).natAbs < y.natAbs := by
  have hmul : c.wHist * y.natAbs < 2 ^ c.wShift * y.natAbs := Nat.mul_lt_mul_of_pos_right hw (Int.natAbs_pos.mpr hy)
  rw [smooth, tdiv, mul_zero, add_zero, Int.natAbs_tdiv, Int.natAbs_mul, Int.natAbs_pow]
  exact Nat.div_lt_of_lt_mul hmul

theorem smooth_zero (c : Config) : smooth c 0 0 = 0 := by simp [smooth, tdiv]

/-- A function that fixes 0 and makes any other integer smaller takes one off the magnitude each time, as long as there is one. -/
theorem natAbs_iterate_le {f : Int → Int} (h0 : f 0 = 0) (hlt : ∀ y, y ≠ 0 → (f y).natAbs < y.natAbs) (y : Int) (n : Nat) :
    (f^[n] y).natAbs ≤ y.natAbs - n := by
  induction n with
  | zero => rfl
  | succ n ih =>
    rw [Function.iterate_succ_apply']
    by_cases hz : f^[n] y = 0
    · simp [hz, h0]
    · have := hlt _ hz
      omega

/-- Settles O47: after as many analyses as its magnitude, a strength is 0. -/
theorem strengthDecaysToZero : Obligations.StrengthDecaysToZero := by
  intro c hw
  have hlt : ∀ y : Int, y ≠ 0 → (smooth c y 0).natAbs < y.natAbs := fun _ => natAbs_smooth_silence_lt hw
  refine ⟨hlt, fun y => ⟨y.natAbs, fun n hn => ?_⟩⟩
  have hle := natAbs_iterate_le (f := fun v => smooth c v 0) (smooth_zero c) hlt y n
  omega

/-! The 1750 Hz decision (R98 to R100). -/

theorem nextC17_eq (s : State) :
    nextC17 s = if s.cfg.thresh1750 < s.y.c4 then min (s.c17 + 1) s.cfg.n1750 else s.c17 - 1 := by
  unfold nextC17 above1750
  simp only [decide_eq_true_eq]
  rfl

/-- R99: with N1750 = 1 the counter's two values decide presence alone. -/
theorem nextDet_of_n1750_one {s : State} (hn : s.cfg.n1750 = 1) (hc : s.c17 ≤ 1) : nextDet s = above1750 s := by
  unfold nextDet nextC17 satInc satDec
  cases above1750 s with
  | true => simp [hn]
  | false => simp [hn, show s.c17 - 1 = 0 by omega]

/-- Settles O48: each field of the 1750 Hz decision on the smoothed strengths. -/
theorem presenceDecisionHasHysteresis : Obligations.PresenceDecisionHasHysteresis := by
  intro s _
  refine ⟨_, rfl, ?_, ?_, ?_, ?_, ?_⟩
  · rw [analyzeWith_c17, analyzeWith_y, nextC17_eq]
    rfl
  · simp [nextDet]
  · simp [nextS17, satInc]
  · simp
  · intro hn hc
    rw [analyzeWith_det, nextDet_of_n1750_one (by exact hn) (by exact hc), analyzeWith_y]
    rfl

/-! The symbol (R103, R104). -/

theorem getLsbD_tonePattern (s : State) :
    (tonePattern s).getLsbD 0 = decide (0 < s.cfg.ndtmf ∧ s.cfg.threshDtmf < s.y.c0) ∧
      (tonePattern s).getLsbD 1 = decide (1 < s.cfg.ndtmf ∧ s.cfg.threshDtmf < s.y.c1) ∧
      (tonePattern s).getLsbD 2 = decide (2 < s.cfg.ndtmf ∧ s.cfg.threshDtmf < s.y.c2) ∧
      (tonePattern s).getLsbD 3 = decide (3 < s.cfg.ndtmf ∧ s.cfg.threshDtmf < s.y.c3) := by
  have hbits : ∀ b0 b1 b2 b3 : Bool, let p := BitVec.ofBool b3 ++ BitVec.ofBool b2 ++ BitVec.ofBool b1 ++ BitVec.ofBool b0
      p.getLsbD 0 = b0 ∧ p.getLsbD 1 = b1 ∧ p.getLsbD 2 = b2 ∧ p.getLsbD 3 = b3 := by decide
  simp only [Bool.decide_and]
  exact hbits _ _ _ _

theorem symbolOf_of_mem {c : Config} {p : Symbol} (h : p ∈ c.validCodes) : symbolOf c p = p :=
  if_pos (List.contains_iff_mem.mpr h)

theorem symbolOf_of_not_mem {c : Config} {p : Symbol} (h : p ∉ c.validCodes) : symbolOf c p = Symbol.none :=
  if_neg (mt List.contains_iff_mem.mp h)

/-- Settles O49: the pattern is that of the smoothed strengths, and the symbol is decoded from it. -/
theorem symbolIsTheExactPattern : Obligations.SymbolIsTheExactPattern := by
  intro s
  obtain ⟨h0, h1, h2, h3⟩ := getLsbD_tonePattern (smoothAll (normalize s.cfg s.he) s)
  refine ⟨_, tonePattern (smoothAll (normalize s.cfg s.he) s), rfl, ?_⟩
  rw [analyzeWith_y]
  refine ⟨h0, h1, h2, h3, ?_, ?_⟩
  · intro hp
    rw [analyzeWith_sym, beforePush_sym, symbolOf_of_mem hp]
  · intro hp
    rw [analyzeWith_sym, beforePush_sym, symbolOf_of_not_mem hp]

/-! The push (R107 to R109). -/

theorem maybePush_of_push {s : State} {p : Symbol} (hcand : candidate s = some p) (hne : p ≠ s.h.h2)
    (hdue : s.sincePush = s.cfg.debounce) : maybePush s = push p s := by
  simp [maybePush, hcand, hne, hdue]

theorem maybePush_of_stay {s : State}
    (h : ∀ p, candidate s = some p → p ≠ s.h.h2 → s.sincePush ≠ s.cfg.debounce) : maybePush s = s := by
  obtain ⟨p, hcand, hne, hdue, -⟩ | hstay := maybePush_cases s
  · exact absurd hdue (h p hcand hne)
  · exact hstay

/-- R107: the candidate of an analysis, from its symbol and its count without one. -/
theorem candidate_beforePush (norm : Lanes F32 → Lanes Int) (s : State) :
    candidate (beforePush norm s) = if (beforePush norm s).sym ≠ 0#4 then some (beforePush norm s).sym
      else if (beforePush norm s).sinceValid = s.cfg.noneTimeout then some 0#4 else none := by
  rw [ite_not]
  rfl

/-- Settles O50: the statement's timers and candidate are those of the state in which the push is decided. -/
theorem historyPushesOnDebouncedChange : Obligations.HistoryPushesOnDebouncedChange := by
  intro s valid pushed cand
  refine ⟨_, rfl, fun hvalid hpushed hcand => ?_⟩
  rw [analyzeWith_sym] at hvalid hcand
  obtain rfl : valid = (beforePush (normalize s.cfg) s).sinceValid := hvalid.trans (beforePush_sinceValid _ s).symm
  obtain rfl : pushed = (beforePush (normalize s.cfg) s).sincePush := hpushed.trans (beforePush_sincePush _ s).symm
  obtain rfl : cand = candidate (beforePush (normalize s.cfg) s) := hcand.trans (candidate_beforePush _ s).symm
  rw [analyzeWith_h, analyzeWith_sincePush]
  refine ⟨analyzeWith_sinceValid _ s, fun p hp hne hdue => ?_, fun h => ?_⟩
  · rw [maybePush_of_push hp hne hdue]
    exact ⟨rfl, rfl⟩
  · rw [maybePush_of_stay]
    · exact ⟨rfl, rfl⟩
    · intro p hp hne
      rw [hp] at h
      rcases h with h | h | h
      · exact absurd h nofun
      · exact absurd (Option.some.inj h) hne
      · exact h

/-! The order of the decisions (R97) and the choice of NORMALIZE (R96). -/

/-- The push decision reads nothing the 1750 Hz decision writes, and writes nothing it reads. -/
theorem maybePush_decide1750 (s : State) : maybePush (decide1750 s) = decide1750 (maybePush s) := by
  by_cases h : ∀ p, candidate s = some p → p ≠ s.h.h2 → s.sincePush ≠ s.cfg.debounce
  · rw [maybePush_of_stay h]
    exact maybePush_of_stay (s := decide1750 s) h
  · push Not at h
    obtain ⟨p, hcand, hne, hdue⟩ := h
    rw [maybePush_of_push hcand hne hdue]
    exact maybePush_of_push (s := decide1750 s) hcand hne hdue

/-- Settles O52: every part of the DTMF decision commutes with the 1750 Hz decision. -/
theorem decisionOrderUnobservable : Obligations.DecisionOrderUnobservable := by
  intro s
  calc matchSeq (maybePush (countTimers (decodeDtmf (decide1750 s))))
      = matchSeq (maybePush (decide1750 (countTimers (decodeDtmf s)))) := rfl
    _ = matchSeq (decide1750 (maybePush (countTimers (decodeDtmf s)))) := by rw [maybePush_decide1750]
    _ = decide1750 (matchSeq (maybePush (countTimers (decodeDtmf s)))) := rfl

/-- Settles O55: an analysis keeps the items for any bounded output, and reads NORMALIZE at the slot's energies only. -/
theorem anyBoundedNormalizeKeepsInvariant : Obligations.AnyBoundedNormalizeKeepsInvariant := fun _ _ _ ok hs hn =>
  ⟨inv_analyzeWith ok hs hn, fun h => by rw [analyzeWith, h, analyzeWith]⟩

end Sys2Proof.Machine
end

section
/-! PROOF. The control commands (R115 to R125): what NOP, SETEN, RDREG and CLRST do, the words of the registers by the position of
their fields (R39 to R43), the step on an ILLEGAL word, and which steps deliver a response. -/

namespace Sys2Proof.Machine

/-! The commands that respond nothing. -/

/-- Settles O36: NOP's meaning is the state it is given. -/
theorem nopChangesNothing : Obligations.NopChangesNothing := fun _ => rfl

/-- Settles O37: the two cases of SETEN exclude each other. -/
theorem setenActsOnChangeOnly : Obligations.SetenActsOnChangeOnly := by
  intro e s
  obtain ⟨same, h⟩ | ⟨change, h⟩ := execSeten_cases e s
  · exact ⟨fun _ => h, fun change => absurd same change⟩
  · exact ⟨fun same => absurd same change, fun _ => h⟩

/-- R121: `m[0]` selects the error record. -/
theorem clearErr_eq (m : BitVec 2) (s : State) :
    clearErr m s =
      { s with
        err := if m.getLsbD 0 then false else s.err
        ecause := if m.getLsbD 0 then 0#4 else s.ecause } := by
  unfold clearErr
  cases m.getLsbD 0 <;> rfl

/-- R121: `m[1]` selects the overrun record. -/
theorem clearOvr_eq (m : BitVec 2) (s : State) :
    clearOvr m s = { s with ovr := if m.getLsbD 1 then false else s.ovr } := by
  unfold clearOvr
  cases m.getLsbD 1 <;> rfl

/-- Settles O41: the two records are cleared one after the other, each by its own bit of the mask. -/
theorem clrstClearsSelected : Obligations.ClrstClearsSelected := by
  intro m s
  rw [exec, execClrst, clearErr_eq, clearOvr_eq]

/-! The registers as words: each field at its position, none longer than its place. -/

/-- The low part of a concatenation first, the high part shifted above it. -/
theorem setWidth_append_eq_low_or_high (k : Nat) {m n : Nat} (high : BitVec m) (low : BitVec n) :
    (high ++ low).setWidth k = low.setWidth k ||| high.setWidth k <<< n := by
  rw [BitVec.setWidth_append_eq_shiftLeft_setWidth_or, BitVec.or_comm]

/-- R39: STATUS. -/
theorem statusWord_eq_or (s : State) :
    statusWord s = (BitVec.ofBool s.en).setWidth 32 ||| (BitVec.ofBool s.det).setWidth 32 <<< 1
      ||| (BitVec.ofBool s.lng).setWidth 32 <<< 2 ||| (BitVec.ofBool s.seqMatch).setWidth 32 <<< 3
      ||| (BitVec.ofBool s.hv).setWidth 32 <<< 4 ||| (BitVec.ofBool s.ovr).setWidth 32 <<< 5
      ||| (BitVec.ofBool s.err).setWidth 32 <<< 6 ||| s.sym.setWidth 32 <<< 8 ||| s.ecause.setWidth 32 <<< 12 := by
  rw [← BitVec.setWidth_eq (statusWord s)]
  simp only [statusWord, setWidth_append_eq_low_or_high, BitVec.shiftLeft_or_distrib, ← BitVec.shiftLeft_add]
  simp [BitVec.or_assoc]

/-- R40: HIST. -/
theorem histWord_eq_or (s : State) :
    histWord s = s.h.h2.setWidth 32 ||| s.h.h1.setWidth 32 <<< 4 ||| s.h.h0.setWidth 32 <<< 8 := by
  rw [← BitVec.setWidth_eq (histWord s)]
  simp only [histWord, setWidth_append_eq_low_or_high, BitVec.shiftLeft_or_distrib, ← BitVec.shiftLeft_add]
  simp [BitVec.or_assoc]

/-- R41: SCNT, for a count its field holds. -/
theorem scntWord_eq_ofNat {s : State} (hcnt : s.cnt < 2 ^ 16) : scntWord s = BitVec.ofNat 32 s.cnt := by
  rw [← BitVec.setWidth_eq (scntWord s), scntWord, setWidth_append_eq_low_or_high,
    BitVec.setWidth_ofNat_of_le_of_lt (by decide) hcnt]
  simp

/-- R42: C1750, for counters their fields hold. -/
theorem c1750Word_eq_or {s : State} (hc : s.c17 < 2 ^ 8) (hs : s.s17 < 2 ^ 16) :
    c1750Word s = BitVec.ofNat 32 s.c17 ||| BitVec.ofNat 32 s.s17 <<< 8 := by
  rw [← BitVec.setWidth_eq (c1750Word s), c1750Word, setWidth_append_eq_low_or_high, setWidth_append_eq_low_or_high,
    BitVec.setWidth_ofNat_of_le_of_lt (by decide) hc, BitVec.setWidth_ofNat_of_le_of_lt (by decide) hs]
  simp

/-- R43: DTMFT, for timers their fields hold. -/
theorem dtmftWord_eq_or {s : State} (hv : s.sinceValid < 2 ^ 16) (hp : s.sincePush < 2 ^ 16) :
    dtmftWord s = BitVec.ofNat 32 s.sinceValid ||| BitVec.ofNat 32 s.sincePush <<< 16 := by
  rw [← BitVec.setWidth_eq (dtmftWord s), dtmftWord, setWidth_append_eq_low_or_high,
    BitVec.setWidth_ofNat_of_le_of_lt (by decide) hv, BitVec.setWidth_ofNat_of_le_of_lt (by decide) hp]

/-- R23, R26, R27, R30: under the invariant every counter fits the register field that shows it. -/
theorem Inv.counters_fit {s : State} (hs : Inv s) (ok : configOk s.cfg = true) :
    s.cnt < 2 ^ 16 ∧ s.c17 < 2 ^ 8 ∧ s.s17 < 2 ^ 16 ∧ s.sinceValid < 2 ^ 16 ∧ s.sincePush < 2 ^ 16 := by
  obtain ⟨hsizes, -, -, -, -, hranges, -⟩ := (configOk_iff s.cfg).mp ok
  obtain ⟨-, ⟨-, hblock⟩, -⟩ := (sizesOk_iff s.cfg).mp hsizes
  obtain ⟨-, ⟨-, hn1750⟩, ⟨-, htimeout⟩, ⟨-, hdebounce⟩, -, hsustain⟩ := (rangesOk_iff s.cfg).mp hranges
  have hcnt := hs.count
  obtain ⟨hc17, -⟩ := hs.presence
  obtain ⟨hs17, -⟩ := hs.sustain
  obtain ⟨hvalid, hpush⟩ := hs.timer
  omega

/-! RDREG. -/

/-- Settles O39: a reserved index records the error on the response 0. -/
theorem rdregReservedRecordsErrorTwo : Obligations.RdregReservedRecordsErrorTwo := fun s _ h => execRdreg_reserved h s

/-- Settles O38: RDREG responds with the register's word, and under the invariant that word holds every field in full. -/
theorem rdregRespondsWithRegister : Obligations.RdregRespondsWithRegister := by
  intro s ans ok hs hans
  obtain rfl : ans = fun v => respond v s := funext hans
  obtain ⟨hcnt, hc17, hs17, hvalid, hpush⟩ := hs.counters_fit ok
  rw [← statusWord_eq_or, ← histWord_eq_or, ← scntWord_eq_ofNat hcnt, ← c1750Word_eq_or hc17 hs17, ← dtmftWord_eq_or hvalid hpush]
  exact ⟨rfl, rfl, rfl, rfl, rfl, rfl, rfl, rfl, rfl, rfl, rfl, fun idx hidx => execRdreg_reserved hidx s⟩

/-! Steps. -/

/-- Settles O9: the due word's turn, and the word as an ILLEGAL one. -/
theorem stepRecordsIllegalWord : Obligations.StepRecordsIllegalWord := by
  intro s w f rest e ok hq hf hd
  rw [step_of_turn_command ok (turn_eq_command hq hf), runWord_of_error hd, consume, hq, List.tail_cons]
  rfl

/-- R125: a command that finds the response port free delivers a word exactly when it is RDREG, and delivers that word only. -/
theorem CommandEffect.response {i : Instr} {s t : State} (h : CommandEffect i s t) (free : s.rsp = none) :
    (t.rsp.isSome = true ↔ ∃ idx, i = .rdreg idx) ∧ t.responses = s.responses ++ t.rsp.toList := by
  cases h with
  | read | reserved => simp
  | nop | discard | sameLevel => simp [free]
  | accept | complete => simp [acceptSample, completeBlock, free]
  | switch | clear => simp [free]

/-- Settles O22: a command word's step responds as the command does, and every other step leaves the port free. -/
theorem responseExactlyForRdreg : Obligations.ResponseExactlyForRdreg := by
  intro s t h
  cases StepEffect.of_step h with
  | quiescent tu | analyze tu | reset tu => simp [tu]
  | illegal w e tu hd => simp [tu, hd]
  | command w i _ tu hd effect =>
    obtain ⟨hiff, hlist⟩ := effect.response (consume_rsp s)
    exact ⟨by simpa [tu, hd] using hiff, hlist⟩

end Sys2Proof.Machine
end

section
/-! PROOF. What stops no step (R124, R132), and the order of the two agents (R56, R136). -/

namespace Sys2Proof.Machine

theorem step_of_turn_quiescent {s : State} (ok : configOk s.cfg = true) (tu : turn s = .quiescent) :
    step s = .next (silent s) := by
  simp [step, ok, tu]

theorem step_of_turn_reset {s : State} (ok : configOk s.cfg = true) (tu : turn s = .reset) :
    step s = .next (resetStep (consume s)) := by
  simp [step, ok, tu]

/-- Settles O15: whatever the turn, the step answers; a command's by the answer every word has. -/
theorem noStepStopsTheBlock : Obligations.NoStepStopsTheBlock := by
  intro s ok
  cases tu : turn s with
  | quiescent => exact ⟨_, step_of_turn_quiescent ok tu⟩
  | analyze => exact ⟨_, step_of_turn_analyze ok tu⟩
  | command w => exact step_of_turn_command ok tu ▸ runWord_answers w (consume s)
  | reset => exact ⟨_, step_of_turn_reset ok tu⟩

/-- Settles O11: with the slot full the mark of the word that is due decides the turn. -/
theorem eitherAgentMayGoFirst : Obligations.EitherAgentMayGoFirst := by
  intro s w rest ok hv
  constructor
  · exact step_of_turn_analyze ok ((turn_eq_analyze_iff _).mpr ⟨hv, .inr ⟨_, rest, rfl, rfl⟩⟩)
  · exact step_of_turn_command ok (turn_eq_command rfl (Bool.and_false _))

end Sys2Proof.Machine
end

section
/-! PROOF. The reset step (R150, R151), the quiescent step (R163), and the counts of analyses behind R164: every step keeps them, so
a run's outputs wait for them. -/

namespace Sys2Proof.Machine

/-! The quiescent step and the reset step. -/

/-- R163: with the slot empty and nothing presented the block is quiescent. -/
theorem turn_eq_quiescent {s : State} (hv : s.hv = false) (hq : s.queue = []) : turn s = .quiescent := by
  simp [turn, hq, hv]

/-- R150, R151: a reset that is due, with no analysis before it, is the next step, whatever word is presented beside it. -/
theorem turn_eq_reset {s : State} {lost : Option Word} {f : Bool} {rest : List Presented}
    (hq : s.queue = { event := .reset lost, anFirst := f } :: rest) (hf : (s.hv && f) = false) : turn s = .reset := by
  simp [turn, hq, hf]

/-- Settles O12: the turn is quiescent, and such a step only clears the response port. -/
theorem quiescentStepChangesNothing : Obligations.QuiescentStepChangesNothing := fun _ ok hv hq =>
  step_of_turn_quiescent ok (turn_eq_quiescent hv hq)

/-- Settles O13: the turn is a reset, and `resetStep` writes each element. -/
theorem resetStepRestoresResetState : Obligations.ResetStepRestoresResetState := by
  intro s lost f rest ok hq hf
  refine ⟨resetStep (consume s), step_of_turn_reset ok (turn_eq_reset hq hf), ?_⟩
  simp [hq, det1750Out, det1750LongOut, dtmfMatchOut]

/-! How far one analysis moves each counter of the 1750 Hz decision. -/

theorem satInc_le_succ (v m : Nat) : satInc v m ≤ v + 1 := Nat.min_le_left _ _

theorem nextC17_le_succ (s : State) : nextC17 s ≤ s.c17 + 1 := by
  unfold nextC17
  split
  · exact satInc_le_succ _ _
  · exact (satDec_le _).trans (Nat.le_succ _)

/-- R99: presence is new only with the counter at N1750. -/
theorem nextC17_eq_or_det_of_nextDet {s : State} (h : nextDet s = true) : nextC17 s = s.cfg.n1750 ∨ s.det = true := by
  unfold nextDet at h
  split at h
  · exact .inl ‹_›
  · split at h
    · exact absurd h nofun
    · exact .inr h

/-- R100: the sustain count goes up by one at most, and only where presence continues. -/
theorem nextS17_le_succ_of_pos {s : State} (h : 0 < nextS17 s) : s.det = true ∧ nextS17 s ≤ s.s17 + 1 := by
  unfold nextS17 at h ⊢
  split at h
  · rename_i hdet
    exact ⟨(Bool.and_eq_true_iff.mp hdet).1, by rw [if_pos hdet]; exact satInc_le_succ _ _⟩
  · exact absurd h (lt_irrefl 0)

/-! R164 across one analysis. -/

section Counts

variable {n : Nat} {s : State}

/-- R164 needs nothing but what AN owns. -/
theorem CountedInv.of_sameAnalysis {t : State} (h : CountedInv n s) (hcfg : t.cfg = s.cfg) (hsame : SameAnalysis s t) :
    CountedInv n t := by
  obtain ⟨-, hc17, hdet, hs17, hlng, -, hh, -, hsp, hmatch, -⟩ := hsame
  obtain ⟨c17, det, s17, lng, newest, middle, oldest, seqMatch⟩ := h
  rw [← hcfg] at det s17 lng middle oldest seqMatch
  rw [← hh, ← hsp] at newest middle oldest
  exact ⟨hc17 ▸ c17, hdet ▸ det, hs17 ▸ s17, hlng ▸ lng, newest, middle, oldest, hmatch ▸ seqMatch⟩

theorem CountedInv.n1750_le_of_nextDet (h : CountedInv n s) (hdet : nextDet s = true) : s.cfg.n1750 ≤ n + 1 := by
  have hc17 := h.c17
  have hstep := nextC17_le_succ s
  obtain hmax | hold := nextC17_eq_or_det_of_nextDet hdet
  · omega
  · exact (h.det hold).trans (Nat.le_succ n)

/-- R100: a positive count started from presence, or was positive an analysis ago. -/
theorem CountedInv.n1750_add_nextS17_le (h : CountedInv n s) (hpos : 0 < nextS17 s) : s.cfg.n1750 + nextS17 s ≤ n + 1 := by
  obtain ⟨hdet, hstep⟩ := nextS17_le_succ_of_pos hpos
  have hpresent := h.det hdet
  obtain hzero | hold := Nat.eq_zero_or_pos s.s17
  · omega
  · have hsustained := h.s17 hold
    omega

/-- R164 on the history alone: how many analyses each entry that is not NONE needs. -/
abbrev PushesCounted (n : Nat) (s : State) : Prop :=
  (s.h.h2 ≠ Symbol.none → 1 + s.sincePush ≤ n) ∧ (s.h.h1 ≠ Symbol.none → 1 + s.cfg.debounce + s.sincePush ≤ n) ∧
    (s.h.h0 ≠ Symbol.none → 1 + 2 * s.cfg.debounce + s.sincePush ≤ n)

/-- R106, R108, R109: a push comes a full debounce interval after the one before it, and moves every entry one place on; without
one `since_push` goes up by one at most. -/
theorem PushesCounted.analyzeWith (norm : Lanes F32 → Lanes Int) (h : PushesCounted n s) :
    PushesCounted (n + 1) (analyzeWith norm s) := by
  obtain ⟨newest, middle, oldest⟩ := h
  have hsince : (beforePush norm s).sincePush ≤ s.sincePush + 1 := satInc_le_succ _ _
  unfold PushesCounted
  rw [analyzeWith_h, analyzeWith_sincePush, analyzeWith_cfg]
  obtain ⟨p, -, -, hdue, e⟩ | e := maybePush_cases (beforePush norm s) <;> rw [e]
  · rw [beforePush_cfg] at hdue
    refine ⟨fun _ => Nat.le_add_left 1 n, fun hne => ?_, fun hne => ?_⟩ <;> rw [push_sincePush]
    · have := newest hne
      omega
    · have := middle hne
      omega
  · refine ⟨fun hne => ?_, fun hne => ?_, fun hne => ?_⟩
    · have := newest hne
      omega
    · have := middle hne
      omega
    · have := oldest hne
      omega

/-- R164: one analysis more; a match shows SEQ in the history, and no entry of SEQ is NONE. -/
theorem CountedInv.analyzeWith (h : CountedInv n s) (ok : configOk s.cfg = true) (norm : Lanes F32 → Lanes Int) :
    CountedInv (n + 1) (analyzeWith norm s) := by
  have hsmooth : CountedInv n (smoothAll (norm s.he) s) := ⟨h.c17, h.det, h.s17, h.lng, h.newest, h.middle, h.oldest, h.seqMatch⟩
  obtain ⟨newest, middle, oldest⟩ := PushesCounted.analyzeWith norm ⟨h.newest, h.middle, h.oldest⟩
  refine ⟨?_, ?_, ?_, ?_, newest, middle, oldest, ?_⟩
  · rw [analyzeWith_c17]
    exact (nextC17_le_succ _).trans (Nat.succ_le_succ hsmooth.c17)
  · rw [analyzeWith_det, analyzeWith_cfg]
    exact hsmooth.n1750_le_of_nextDet
  · rw [analyzeWith_s17, analyzeWith_cfg]
    exact hsmooth.n1750_add_nextS17_le
  · rw [analyzeWith_lng, analyzeWith_cfg, beq_iff_eq]
    intro hlng
    exact hlng ▸ hsmooth.n1750_add_nextS17_le (hlng ▸ (n1750_sustainBlocks_pos ok).2)
  · rw [analyzeWith_seqMatch, beq_iff_eq, analyzeWith_cfg]
    intro hmatch
    rw [hmatch, analyzeWith_cfg] at oldest
    exact (Nat.le_add_right _ _).trans (oldest (seq_ne_none ok).1)

end Counts

/-- Settles O60: an analysis counts one more, a reset starts anew, and every other step keeps what AN owns. -/
theorem analysisCountsKeptByEveryStep : Obligations.AnalysisCountsKeptByEveryStep := by
  intro n s t hs h
  have ok := configOk_of_step h
  have hsilent : CountedInv n (silent s) := hs.of_sameAnalysis rfl (by constructor <;> rfl)
  unfold analysesAfterStep
  cases StepEffect.of_step h with
  | quiescent tu =>
    rw [tu]
    exact hsilent
  | analyze tu =>
    rw [tu]
    exact hsilent.analyzeWith ok (normalize s.cfg)
  | illegal w e tu hd =>
    rw [tu]
    exact hs.of_sameAnalysis rfl (by constructor <;> rfl)
  | command w i _ tu hd effect =>
    rw [tu]
    have hconsumed : CountedInv n (consume s) := hs.of_sameAnalysis rfl (by constructor <;> rfl)
    obtain ⟨hcfg, hsame⟩ := effect.frame
    exact hconsumed.of_sameAnalysis hcfg hsame
  | reset tu =>
    rw [tu]
    exact (countedInv_resetOf s.cfg).of_sameAnalysis rfl (by constructor <;> rfl)

/-! R164 along a run. -/

/-- What holds at reset with no analyses, and what the host's presenting and every step keep, holds wherever a run is. -/
theorem ReachableAfter.invariant {P : Nat → State → Prop} (init : ∀ c, configOk c = true → P 0 (State.resetOf c))
    (more : ∀ n s ps, P n s → P n (present ps s))
    (step : ∀ n s t, P n s → Machine.step s = .next t → P (analysesAfterStep n s) t) {n : Nat} {s : State}
    (r : ReachableAfter n s) : P n s := by
  induction r with
  | init c ok => exact init c ok
  | more n s ps _ ih => exact more n s ps ih
  | analysis n s t _ tu st ih | reset n s t _ tu st ih | command n s t _ _ tu st ih | quiescent n s t _ tu st ih =>
    simpa [analysesAfterStep, tu] using step n s t ih st

theorem ReachableAfter.configOk {n : Nat} {s : State} (r : ReachableAfter n s) : configOk s.cfg = true :=
  r.invariant (P := fun _ s => Machine.configOk s.cfg = true) (fun _ ok => ok) (fun _ _ _ ok => ok)
    fun _ _ _ ok st => cfg_of_step st ▸ ok

theorem ReachableAfter.countedInv {n : Nat} {s : State} (r : ReachableAfter n s) : CountedInv n s :=
  r.invariant (fun c _ => countedInv_resetOf c) (fun _ _ _ h => h.of_sameAnalysis rfl (by constructor <;> rfl))
    analysisCountsKeptByEveryStep

/-- Settles O58: the counts of a run's state bound each output; before the first analysis every bound is out of reach. -/
theorem outputsNeedEnoughAnalyses : Obligations.OutputsNeedEnoughAnalyses := by
  intro n s r
  have hcount := r.countedInv
  obtain ⟨hn, -⟩ := n1750_sustainBlocks_pos r.configOk
  refine ⟨hcount.det, hcount.lng, hcount.seqMatch, ?_⟩
  rintro rfl
  refine ⟨Bool.eq_false_iff.mpr fun h => ?_, Bool.eq_false_iff.mpr fun h => ?_, Bool.eq_false_iff.mpr fun h => ?_⟩
  · have := hcount.det h
    omega
  · have := hcount.lng h
    omega
  · have := hcount.seqMatch h
    omega

end Sys2Proof.Machine
end
